-- ==== Sys2Proof/Word.lean ====
section
/-! DEFINITION. The words and addresses of the AL612: a 64-bit word of a frame or a line (ch. 10), and the three
addresses of "About This Manual" section 4.1. -/

namespace Sys2Proof

/-- A 64-bit word of a frame, a packet, a management value or a line (ch. 10; a line has eight). -/
abbrev Word := BitVec 64

/-- A byte address: 40 bits (About This Manual 4.1). -/
abbrev ByteAddr := BitVec 40

/-- A line address: the byte address divided by 64, 34 bits (About This Manual 4.1). -/
abbrev LineAddr := BitVec 34

/-- A granule number: the byte address divided by 4,096, 28 bits (About This Manual 4.1). -/
abbrev Granule := BitVec 28

/-- The eight words of a line, word 0 holding the lowest addresses (About This Manual 4.1, R1). -/
abbrev LineData := Vector Word 8

end Sys2Proof
end

