-- ==== Sys2Proof/Config.lean ====
section
/-! DEFINITION. What the part fixes (capacities of About This Manual 2.3, identity of R171, timings of R151) and the
free values: what the manual leaves open and no claim may rest on. -/

namespace Sys2Proof.Config

/-- Egress queue capacity in frames (R120). -/
abbrev egressCap : Nat := 64
/-- Intake request slots shared by all streams (R103). -/
abbrev poolCap : Nat := 32
/-- Intake requests one stream may queue (R103). -/
abbrev queueCap : Nat := 8
/-- Parked requests of one tracker entry (R50). -/
abbrev parkCap : Nat := 4
/-- Fault entries held (R180). -/
abbrev faultCap : Nat := 8
/-- Line size in bytes, as HELLO offers it and a HELLO-ACK must repeat it (R151, R152). -/
abbrev lineSize : BitVec 8 := 64
/-- Part code, in HELLO and at GLOBAL 0 (R151, R171). -/
abbrev partCode : BitVec 16 := 0x0612
/-- Vendor code at GLOBAL 0 (R171). -/
abbrev vendorCode : BitVec 16 := 0x0B71
/-- Revision at GLOBAL 0 (R171). -/
abbrev revision : BitVec 8 := 1
/-- Training retry interval in milliseconds (R151). -/
abbrev trainingMs : Nat := 10
/-- Response-timeout periods of a stale window (R158). -/
abbrev stalePeriods : Nat := 4

/-- FREE VALUE (log entry 7). Whether a received WORD-DATA of size code 5, 6 or 7 requires eight data words or one: the packet
table of ch. 10 knows no other count, and these codes name no size that would choose between the two. -/
opaque wordDataFillsLine : BitVec 3 → Bool

/-- FREE VALUE (log entry 8). The walk position (set, way) that GLOBAL 4 shows of a walk that is past its first pass and
waits at no way, from the phase code and the last position: R172 states a position for a walk that visits or
waits at a way, and none for this one. -/
opaque pastWalkPosition : BitVec 4 → Fin 128 → Fin 4 → BitVec 7 × BitVec 2

end Sys2Proof.Config
end

