-- ==== Sys2Proof/Syntax.lean ====
section
/-! DEFINITION. The commands of the AL612: one constructor per row of spec/opcode_table.json. Each is one whole,
indivisible step of the part (95_what_each_step_holds.md). A row that takes something in from a link carries what
comes in on the lanes; a row about one tracker entry, eviction slot or D-link tag carries its number; the rows about
the arbiter's head request, the engine and the notice unit carry nothing, because the part itself holds what they act on. -/

namespace Sys2Proof

/-- A frame as it comes off a link's lanes, its delimiters and CRC word taken away (ch. 10): whether the CRC was good
(R105, R160) and the complete words, word 0 first. DESIGN CHOICE (log entry 34): where a frame ends inside a word, the words
before that one are its words and the fragment counts as none, on either link; R190 speaks only of one that ends inside word 0. -/
structure Frame where
  crcGood : Bool
  words : List Word
  deriving DecidableEq, Repr

/-- What a link's receiver is given when a row about that link's reception is taken (R121, R122, R195). -/
inductive Arrival where
  /-- A frame whose start and end both come in. -/
  | whole (f : Frame)
  /-- The start of a frame comes in; its end has not. -/
  | start
  /-- The end of the frame in progress comes in, completing frame `f`. -/
  | finish (f : Frame)
  /-- Nothing comes in: the port goes on to the oldest frame waiting in its receiver (R121, R122). -/
  | waiting
  deriving DecidableEq, Repr

/-- The commands, in the order of spec/opcode_table.json. -/
inductive Instr where
  /-- REQUEST_FRAME_ARRIVAL (R103, R104, R123). -/
  | requestFrameArrival (a : Arrival)
  /-- U_LINK_BAD_FRAME (R105). -/
  | uLinkBadFrame (a : Arrival)
  /-- U_LINK_LOCK_GAINED (R195). -/
  | uLinkLockGained
  /-- U_LINK_LOCK_LOST (R195). -/
  | uLinkLockLost
  /-- EGRESS_FRAME_SENT (R120). -/
  | egressFrameSent
  /-- READ (R14, R111 to R115). -/
  | read
  /-- WRITE (R15, R16, R111 to R115). -/
  | write
  /-- RESETTING_REFUSAL (R123). -/
  | resettingRefusal
  /-- STREAM_RECORD_WRITE (R101). -/
  | streamRecordWrite
  /-- STAGING_WINDOW_WRITE (R81). -/
  | stagingWindowWrite
  /-- LINE_STORE_CONTROL_WRITE (R87). -/
  | lineStoreControlWrite
  /-- NOTICE_SOURCE_WRITE (R186). -/
  | noticeSourceWrite
  /-- MGMT_WRITE: the D-link settings (R159, R169). -/
  | mgmtWrite
  /-- BRIDGE_RESET (R142). -/
  | bridgeReset
  /-- COMMIT_WINDOWS (R89). -/
  | commitWindows
  /-- STAGING_RELOAD (R98). -/
  | stagingReload
  /-- NOTICE_CLEAR (R187). -/
  | noticeClear
  /-- FAULT_TAKE (R182). -/
  | faultTake
  /-- LINE_CLEAN (R131). -/
  | lineClean
  /-- LINE_PURGE (R132). -/
  | linePurge
  /-- LINE_DROP (R133). -/
  | lineDrop
  /-- STORE_CLEAN (R137). -/
  | storeClean
  /-- STORE_PURGE (R137). -/
  | storePurge
  /-- DLINK_RETRAIN (R154). -/
  | dlinkRetrain
  /-- LINE_ACTION_STEP (R130). -/
  | lineActionStep
  /-- WALK_VISIT (R136). -/
  | walkVisit
  /-- WALK_REVISIT (R139). -/
  | walkRevisit
  /-- PLACE_ACTION_COMPLETION (R128). -/
  | placeActionCompletion
  /-- SERVE_PARKED_REQUEST (R62). -/
  | serveParkedRequest (entry : Fin 12)
  /-- VICTIM_CHOICE (R9, R10). -/
  | victimChoice (entry : Fin 12)
  /-- EVICTION_STEP (R56). -/
  | evictionStep (entry : Fin 12)
  /-- ENTRY_ISSUE (R58, R59). -/
  | entryIssue (entry : Fin 12)
  /-- SLOT_SEND (R71). -/
  | slotSend (slot : Fin 4)
  /-- DATA_S (R29). -/
  | dataS (a : Arrival)
  /-- DATA_O (R29). -/
  | dataO (a : Arrival)
  /-- GRANT (R29). -/
  | grant (a : Arrival)
  /-- WORD_DATA (R29). -/
  | wordData (a : Arrival)
  /-- DONE (R30). -/
  | done (a : Arrival)
  /-- REFUSED (R31). -/
  | refused (a : Arrival)
  /-- ERROR (R32). -/
  | error (a : Arrival)
  /-- RECALL_SHARE (R39). -/
  | recallShare (a : Arrival)
  /-- RECALL_DROP (R39, R41). -/
  | recallDrop (a : Arrival)
  /-- RESPONSE_TIMER_EXPIRY (R157). -/
  | responseTimerExpiry (tag : Fin 32)
  /-- STALE_WINDOW_END (R158). -/
  | staleWindowEnd (tag : Fin 32)
  /-- SIGNAL_PRESENT (R150). -/
  | signalPresent
  /-- SIGNAL_LOST (R150). -/
  | signalLost
  /-- TRAINING_TIMER_EXPIRY (R151). -/
  | trainingTimerExpiry
  /-- HELLO_ACK (R152). -/
  | helloAck (a : Arrival)
  /-- D_LINK_BAD_FRAME (R160). -/
  | dLinkBadFrame (a : Arrival)
  /-- PLACE_NOTICE (R185, R188). -/
  | placeNotice
  /-- RESET_N_LOW (R194). -/
  | resetNLow
  /-- RESET_N_HIGH (R195). -/
  | resetNHigh
  /-- D_LINK_PACKET_SENT (R23). -/
  | dLinkPacketSent
  /-- MGMT_READ (R168). -/
  | mgmtRead
  /-- MALFORMED_REFUSAL (R111). -/
  | malformedRefusal
  deriving DecidableEq, Repr

end Sys2Proof
end

