-- ==== Sys2Proof/Decode.lean ====
section
/-! DEFINITION. The decoder of the table's words. No row of spec/opcode_table.json gives bits (each row's "fields" is empty
and none has "fixed"): the commands of this block are steps and events, not words. -/

namespace Sys2Proof

/-- The command that a word spells by the table's bits: none, since no row gives bits (log entry 23). -/
def decodeTableWord (_nbits _w : Nat) : Option Instr := none

end Sys2Proof
end

