-- ==== Sys2Proof/Machine/State.lean ====
section
/-! DEFINITION. The state of the AL612, block by block as About This Manual 2.2 lists them, the two reasons a step
could stop, and the state right after a power-on reset. -/

namespace Sys2Proof.Machine

open Sys2Proof (Word LineAddr ByteAddr Granule LineData Instr Frame)

/-! ## The line store (chapter 1) -/

/-- The coherence state of a way (R2). -/
inductive LineState where
  | invalid
  | shared
  | owned
  | modified
  deriving DecidableEq, Repr

/-- The holder field of a line record (R7). -/
inductive Holder where
  | none
  | entry (n : Fin 12)
  | slot (k : Fin 4)
  deriving DecidableEq, Repr

/-- One way: a line record (section 1.2). `marks` bit n is word n's modified mark. -/
structure LineRecord where
  tag : BitVec 27
  state : LineState
  marks : BitVec 8
  data : LineData
  holder : Holder
  deriving DecidableEq, Repr

/-- One set: its four ways and its victim pointer (section 1.1). -/
structure CacheSet where
  ways : Vector LineRecord 4
  victim : Fin 4
  deriving DecidableEq, Repr

/-- A way named by its set and way number. -/
structure WayRef where
  set : Fin 128
  way : Fin 4
  deriving DecidableEq, Repr

/-! ## Requests, streams and windows (chapters 4, 5) -/

/-- The caching policies: a stream's policy and a request's effective policy (R86, R100). -/
inductive Policy where
  | writeBack
  | writeThrough
  | bypass
  | bypassOrdered
  deriving DecidableEq, Repr

/-- The sizes of a READ or WRITE (About This Manual 4.1). -/
inductive Size where
  | b1
  | b2
  | b4
  | b8
  | b64
  deriving DecidableEq, Repr

/-- The failure mark a final failure sets on a parked request (section 3.1). -/
inductive FailMark where
  | failed
  | linkDown
  deriving DecidableEq, Repr

/-- A READ or WRITE as its admission left it (section 3.1, "Each parked request keeps"). `data` holds the write data
words as the frame carried them: none for a READ, one word with the bytes in their lanes, or eight line words. -/
structure Request where
  stream : Fin 16
  tag : Fin 64
  isWrite : Bool
  addr : ByteAddr
  size : Size
  data : List Word
  policy : Policy
  failure : Option FailMark
  deriving DecidableEq, Repr

/-- A request frame in an intake queue: its word 0, the mark that its length was wrong, and, when it was not, the words
after word 0 (R103, R190). -/
structure QueuedFrame where
  word0 : Word
  lengthWrong : Bool
  words : List Word
  deriving DecidableEq, Repr

/-- A stream's blocked mark (R108). -/
inductive Blocked where
  | clear
  | noEntry
  | entryFull (line : LineAddr)
  deriving DecidableEq, Repr

/-- A stream's record and its intake queue (R100, R103). The outstanding count is the number of outstanding tags and the
queued count the length of the queue (R100), so neither is stored a second time. -/
structure StreamRecord where
  isOpen : Bool
  policy : Policy
  depth : BitVec 5
  manage : Bool
  outstanding : List (Fin 64)
  blocked : Blocked
  queue : List QueuedFrame
  deriving DecidableEq, Repr

/-- The kind of a window (R80). -/
inductive WindowKind where
  | far
  | deny
  deriving DecidableEq, Repr

/-- The ceiling of a window (R80). -/
inductive Ceiling where
  | writeBack
  | writeThrough
  | bypass
  deriving DecidableEq, Repr

/-- A window record (section 4.1). -/
structure WindowRecord where
  inUse : Bool
  start : Granule
  last : Granule
  kind : WindowKind
  ceiling : Ceiling
  isProtected : Bool
  deriving DecidableEq, Repr

/-- The window table: the staging copy, the active copy in ascending order of start granule, and the epoch (R82, R83). -/
structure WindowTable where
  staging : Vector WindowRecord 24
  active : List WindowRecord
  epoch : BitVec 16
  deriving DecidableEq, Repr

/-! ## The miss tracker and the eviction slots (chapter 3) -/

/-- What a tracker entry asks of the home (section 3.1). -/
inductive EntryKind where
  | fetchS
  | fetchO
  | upgrade
  | directRead
  | directWrite
  | purgeDirect
  deriving DecidableEq, Repr

/-- Why a WAITING entry waits (section 3.2). -/
inductive Reason where
  | lineInSlot
  | noWay
  | noSlot
  | noTag
  | slotNotSent
  deriving DecidableEq, Repr

/-- Where a tracker entry is in its work; the D-link tag is present in ISSUED (section 3.1). -/
inductive EntryPhase where
  | waiting (why : Reason)
  | issued (tag : Fin 32)
  | ending
  deriving DecidableEq, Repr

/-- The fitting reply of a direct kind, kept until the first parked request is served with it (R61, R62). -/
inductive Answer where
  | none
  | wordData (words : List Word)
  | done
  deriving DecidableEq, Repr

/-- A tracker entry in use (section 3.1). `lastTag` is the tag of the last attempt the entry has made, of whatever
kind, for the fault entry of a final failure (R65; log entry 12). `storedShared` marks a DIRECT-WRITE whose bytes were stored into a SHARED
line (R16). `wake` is the model's own: a slot has freed since the entry began to wait NO-SLOT, so it owes the repeat R55
and R56 give it (log entry 3). -/
structure TrackerEntry where
  line : LineAddr
  kind : EntryKind
  phase : EntryPhase
  way : Option WayRef
  victim : Option (Fin 4)
  attempts : Nat
  converted : Bool
  epoch : BitVec 16
  parked : List Request
  lastTag : Option (Fin 32)
  storedShared : Bool
  answer : Answer
  wake : Bool
  deriving DecidableEq, Repr

/-- What an eviction slot tells the home (section 3.6). -/
inductive SlotKind where
  | putback
  | release
  | flush
  deriving DecidableEq, Repr

/-- The state of a slot in use: the owner entry is present in PARKED, the D-link tag in SENDING and ANSWERED
(section 3.6). A FREE slot is `none` in `State.slots`. -/
inductive SlotState where
  | parked (owner : Fin 12)
  | queued
  | sending (tag : Fin 32)
  | answered (tag : Fin 32)
  deriving DecidableEq, Repr

/-- An eviction slot in use (section 3.6). The word mask of a RELEASE is empty; the data of a PARKED RELEASE is what R10
has it record for the restore of R13. -/
structure EvictionSlot where
  state : SlotState
  kind : SlotKind
  line : LineAddr
  mask : BitVec 8
  data : LineData
  origin : WayRef
  originState : LineState
  attempts : Nat
  stallReported : Bool
  deriving DecidableEq, Repr

/-! ## The maintenance engine (chapter 6) -/

/-- The action that holds the engine (section 6.1). -/
inductive Action where
  | lineClean
  | linePurge
  | lineDrop
  | storeClean
  | storePurge
  | commit
  | bridgeReset
  deriving DecidableEq, Repr

/-- Where the action is in its work (sections 6.3, 6.4, 6.6). A bridge reset's PURGE is its walk's first pass and then its
revisit. CLEAR is applied and left in one step (R147), so no state stands in it. -/
inductive EnginePhase where
  | waitLine
  | waitSlot
  | waitFree
  | finishing
  | firstPass
  | revisit
  | drain
  | refusing
  | purgeFirstPass
  | purgeRevisit
  | settle
  deriving DecidableEq, Repr

/-- What a walk's visit waits for at a way: nothing, a FREE slot (R138), or the way to open (R139). -/
inductive WalkWait where
  | none
  | slot
  | opening
  deriving DecidableEq, Repr

/-- The outcome of a line action (section 6.1). -/
inductive LineOutcome where
  | notPresent
  | unchanged
  | cleaned
  | purged
  | dropped
  deriving DecidableEq, Repr

/-- The engine's progress record (section 6.1); `none` in `State.engine` is IDLE. `position` is the walk position, and for
a line action in WAIT-LINE the way whose opening it waits for. `found` is `invalid` where the line action found no line.
`walkWait` and `wake` are the model's own: what the step waits for, and that the event waited for has come, so that the
repeat is owed (log entry 3). -/
structure Progress where
  action : Action
  stream : Fin 16
  tag : Fin 64
  line : LineAddr
  phase : EnginePhase
  position : WayRef
  passedOver : List WayRef
  own : List (Fin 4)
  purged : Nat
  cleaned : Nat
  skipped : Nat
  outcome : LineOutcome
  found : LineState
  walkWait : WalkWait
  wake : Bool
  deriving DecidableEq, Repr

/-! ## The downstream link (chapter 7) -/

/-- The link states (section 7.1). -/
inductive LinkState where
  | down
  | training
  | up
  | faulted
  deriving DecidableEq, Repr

/-- The sender whose attempt carries a tag (section 7.4). -/
inductive Owner where
  | entry (n : Fin 12)
  | slot (k : Fin 4)
  deriving DecidableEq, Repr

/-- A D-link tag record (section 7.4). `timer` is the response timer's length in units of 64 µs as it was started, `window`
the stale window's length in the same units (R157, R158); the passage of time is the expiry command (log entry 2). -/
inductive TagRecord where
  | free
  | inUse (owner : Owner) (timer : BitVec 8)
  | retired (window : Nat)
  deriving DecidableEq, Repr

/-- The outcome of a RECALL-REPLY (R37). -/
inductive RecallOutcome where
  | notHeld
  | clean
  | data (mask : BitVec 8) (words : LineData)
  deriving DecidableEq, Repr

/-- The packets from the bridge to the home (section 2.1). -/
inductive BridgePacket where
  | hello
  | getS (tag : Fin 32) (line : LineAddr)
  | getO (tag : Fin 32) (line : LineAddr)
  | upgrade (tag : Fin 32) (line : LineAddr)
  | putback (tag : Fin 32) (line : LineAddr) (mask : BitVec 8) (words : LineData)
  | release (tag : Fin 32) (line : LineAddr)
  | flush (tag : Fin 32) (line : LineAddr) (mask : BitVec 8) (words : LineData)
  | directRead (tag : Fin 32) (addr : ByteAddr) (size : Size)
  | directWrite (tag : Fin 32) (addr : ByteAddr) (size : Size) (data : List Word)
  | recallReply (homeTag : BitVec 8) (line : LineAddr) (outcome : RecallOutcome)
  deriving DecidableEq, Repr

/-- The D-link controller (R149) with its receiver and its transmitter (R23, R122). `trainingTimer` is the interval in
milliseconds it was started with, absent when stopped. `rx` is the frames waiting in the receiver, oldest first, and
`framing` says that a frame's start has come in and its end has not. `tx` is the packets formed and not yet sent, oldest
first, and `lanes` the words last put on the transmit lanes. -/
structure DLink where
  state : LinkState
  signal : Bool
  trainingTimer : Option Nat
  homeId : BitVec 16
  timeout : BitVec 8
  retryLimit : BitVec 4
  tags : Vector TagRecord 32
  badFrames : BitVec 16
  staleReplies : BitVec 16
  unknownTags : BitVec 16
  timeouts : BitVec 16
  rx : List Frame
  framing : Bool
  tx : List BridgePacket
  lanes : List Word
  deriving DecidableEq, Repr

/-! ## The U-link port (chapter 5) -/

/-- The fourteen completion statuses (About This Manual 4.7). -/
inductive Status where
  | ok
  | retry
  | streamClosed
  | malformed
  | duplicateTag
  | noWindow
  | denied
  | isProtected
  | failed
  | linkDown
  | resetting
  | busy
  | invalidValue
  | invalidTable
  deriving DecidableEq, Repr

/-- A frame in the egress queue: a COMPLETION with the words it carries, or a NOTICE (section 10.2). -/
inductive EgressFrame where
  | completion (stream : Fin 16) (tag : Fin 64) (status : Status) (words : List Word)
  | notice (target : Fin 16) (source : Fin 6) (sequence : BitVec 8)
  deriving DecidableEq, Repr

/-- The U-link port: its receiver (lock, frame in progress, frames waiting), the egress queue in placement order, the
words last put on the transmit lanes, and the bad-frame counter (R105, R120, R121, R195). -/
structure ULink where
  lock : Bool
  framing : Bool
  rx : List Frame
  egress : List EgressFrame
  lanes : List Word
  badFrames : BitVec 16
  deriving DecidableEq, Repr

/-! ## Faults and notices (chapter 9) -/

/-- The reason an ERROR carries (R32). -/
inductive HomeReason where
  | poisoned
  | outOfRange
  | protocol
  deriving DecidableEq, Repr

/-- The ten kinds of fault entry (R179). -/
inductive FaultKind where
  | noWindow
  | deniedWindow
  | protectViolation
  | fetchFailed
  | linkDownFail
  | replyMismatch
  | homeError
  | unknownTag
  | writebackStalled
  | dataDiscarded
  deriving DecidableEq, Repr

/-- A fault entry (section 9.1). -/
structure FaultEntry where
  kind : FaultKind
  stream : Option (Fin 16)
  requestTag : Option (Fin 64)
  line : Option LineAddr
  dTag : Option (Fin 32)
  reason : Option HomeReason
  attempts : Option Nat
  deriving DecidableEq, Repr

/-- The fault record: its entries, oldest first, and the overflow count (section 9.1). -/
structure FaultRecord where
  entries : List FaultEntry
  overflow : BitVec 8
  deriving DecidableEq, Repr

/-- A source's notice mark (section 9.2). -/
inductive NoticeMark where
  | none
  | pending
  | sent
  deriving DecidableEq, Repr

/-- A notice source (section 9.2). -/
structure NoticeSource where
  status : Bool
  enable : Bool
  target : Fin 16
  mark : NoticeMark
  sequence : BitVec 8
  deriving DecidableEq, Repr

/-! ## The whole state -/

/-- The state of the AL612. `resetN` is the level of the RESET_N pin. A tracker entry not in use and a FREE slot are
`none` (R50, R68); the engine's `none` is IDLE. `pending` is the queue of commands that wait, the model's own. -/
structure State where
  resetN : Bool
  ulink : ULink
  streams : Vector StreamRecord 16
  arbiter : Fin 16
  windows : WindowTable
  lineStoreOn : Bool
  store : Vector CacheSet 128
  entries : Vector (Option TrackerEntry) 12
  slots : Vector (Option EvictionSlot) 4
  engine : Option Progress
  dlink : DLink
  faults : FaultRecord
  notices : Vector NoticeSource 6
  pending : List Instr
  deriving DecidableEq, Repr

/-- The faults of a step: none. The manual gives every command an effect, and a command whose step cannot be taken leaves
the state as it is (log entry 1), so no meaning ends in a fault. Safe: nothing stops that the part would go on with. -/
inductive Fault where
  deriving DecidableEq, Repr

/-- The refusals of a step. -/
inductive Refusal where
  /-- Raised by an arm of `exec` whose command has no meaning yet; no arm raises it. Safe: the step stops. -/
  | notModelled (mnemonic : String)
  deriving DecidableEq, Repr

/-! ## Reset values -/

/-- A line record after either reset (R22). -/
def LineRecord.reset : LineRecord where
  tag := 0
  state := .invalid
  marks := 0
  data := Vector.replicate 8 0
  holder := .none

/-- The line store after either reset (R22). -/
def resetStore : Vector CacheSet 128 :=
  Vector.replicate 128 { ways := Vector.replicate 4 LineRecord.reset, victim := 0 }

/-- A staging record after either reset, and after a STAGING-RELOAD past the active records (R98, R99). -/
def WindowRecord.reset : WindowRecord where
  inUse := false
  start := 0
  last := 0
  kind := .far
  ceiling := .writeBack
  isProtected := false

/-- The window table after either reset (R99). -/
def WindowTable.reset : WindowTable where
  staging := Vector.replicate 24 WindowRecord.reset
  active := []
  epoch := 0

/-- Stream record `st` after a power-on reset (R124): stream 0 OPEN with MANAGE, the others CLOSED without. -/
def StreamRecord.reset (st : Fin 16) : StreamRecord where
  isOpen := st == 0
  policy := .bypass
  depth := 4
  manage := st == 0
  outstanding := []
  blocked := .clear
  queue := []

/-- The U-link port after a power-on reset (R124, R194, R195). -/
def ULink.reset : ULink where
  lock := false
  framing := false
  rx := []
  egress := []
  lanes := []
  badFrames := 0

/-- The D-link controller after a power-on reset (R166). -/
def DLink.reset : DLink where
  state := .down
  signal := false
  trainingTimer := none
  homeId := 0
  timeout := 16
  retryLimit := 2
  tags := Vector.replicate 32 .free
  badFrames := 0
  staleReplies := 0
  unknownTags := 0
  timeouts := 0
  rx := []
  framing := false
  tx := []
  lanes := []

/-- The fault record after either reset (R183). -/
def FaultRecord.reset : FaultRecord where
  entries := []
  overflow := 0

/-- A notice source after either reset (R189). -/
def NoticeSource.reset : NoticeSource where
  status := false
  enable := false
  target := 0
  mark := .none
  sequence := 0

/-- The machine right after a power-on reset with RESET_N high again and neither receiver locked yet (R194, R195): every
block at the value its chapter gives, no command waiting. -/
def State.reset : State where
  resetN := true
  ulink := ULink.reset
  streams := Vector.ofFn StreamRecord.reset
  arbiter := 0
  windows := WindowTable.reset
  lineStoreOn := true
  store := resetStore
  entries := Vector.replicate 12 none
  slots := Vector.replicate 4 none
  engine := none
  dlink := DLink.reset
  faults := FaultRecord.reset
  notices := Vector.replicate 6 NoticeSource.reset
  pending := []

end Sys2Proof.Machine
end

