-- ==== Sys2Proof/Machine/Operands.lean ====
section
/-! DEFINITION. The operand forms of the commands, as chapter 10 lays them out: bit fields, the addresses and byte lanes of
a request, the fields and the form check of a request frame, the packets of the home, and the words of the frames and
packets the AL612 sends. -/

namespace Sys2Proof.Machine

open Sys2Proof (Word LineAddr ByteAddr Granule LineData Frame)

/-! ## Bit fields -/

/-- Bits `lo + n - 1` to `lo` of a word, as a number (ch. 10, "A field is given as its highest and lowest bit"). -/
def bits (w : Word) (lo n : Nat) : Nat := (w.toNat / 2 ^ lo) % 2 ^ n

/-- The same field as a bit vector. -/
def field (w : Word) (lo n : Nat) : BitVec n := BitVec.ofNat n (bits w lo n)

/-- One bit of a word. -/
def flag (w : Word) (lo : Nat) : Bool := bits w lo 1 == 1

/-- A field's value put at its place in a word; the places of one word's fields do not overlap, so the word is their sum. -/
def put (lo : Nat) (v : Nat) : Word := BitVec.ofNat 64 (v * 2 ^ lo)

/-- A bit as a number. -/
def bit (b : Bool) : Nat := if b then 1 else 0

/-- A counter that stays at its largest value (About This Manual 4.2). -/
def satInc {n : Nat} (c : BitVec n) : BitVec n := if c = BitVec.allOnes n then c else c + 1

/-! ## Addresses and byte lanes -/

/-- The line address of a byte address (About This Manual 4.1). -/
def lineOfAddr (a : ByteAddr) : LineAddr := BitVec.ofNat 34 (a.toNat / 64)

/-- The granule of a byte address (section 4.1). -/
def granuleOfAddr (a : ByteAddr) : Granule := BitVec.ofNat 28 (a.toNat / 4096)

/-- The granule of a line address (section 4.1). -/
def granuleOfLine (l : LineAddr) : Granule := BitVec.ofNat 28 (l.toNat / 64)

/-- The set of a line address (R1). -/
def setOf (l : LineAddr) : Fin 128 := Fin.ofNat 128 l.toNat

/-- The tag of a line address (R1). -/
def tagOf (l : LineAddr) : BitVec 27 := BitVec.ofNat 27 (l.toNat / 128)

/-- The line address a way of set `s` with tag `t` holds (R1). -/
def lineAt (t : BitVec 27) (s : Fin 128) : LineAddr := BitVec.ofNat 34 (t.toNat * 128 + s.val)

/-- A size in bytes. -/
def Size.bytes : Size → Nat
  | .b1 => 1
  | .b2 => 2
  | .b4 => 4
  | .b8 => 8
  | .b64 => 64

/-- The size a size code names; codes 5 to 7 name none (section 10.1). -/
def Size.ofCode : Nat → Option Size
  | 0 => some .b1
  | 1 => some .b2
  | 2 => some .b4
  | 3 => some .b8
  | 4 => some .b64
  | _ => none

/-- The code of a size (section 10.1). -/
def Size.code : Size → Nat
  | .b1 => 0
  | .b2 => 1
  | .b4 => 2
  | .b8 => 3
  | .b64 => 4

/-- How many words the data of a size fills in a frame or packet (sections 10.1, 10.3). -/
def Size.words : Size → Nat
  | .b64 => 8
  | _ => 1

/-- The word of its line in which a byte address lies. -/
def wordIndex (a : ByteAddr) : Fin 8 := Fin.ofNat 8 (a.toNat / 8)

/-- The byte lanes of one word that an access of less than a line covers (R190): lanes (address mod 8) up to
(address mod 8) + size - 1. -/
def laneMask (a : ByteAddr) (z : Size) : Word :=
  BitVec.ofNat 64 ((2 ^ (8 * z.bytes) - 1) * 2 ^ (8 * (a.toNat % 8)))

/-- The bits of word `i` of its line that an access covers (R19). -/
def wordMask (a : ByteAddr) (z : Size) (i : Fin 8) : Word :=
  match z with
  | .b64 => BitVec.allOnes 64
  | _ => if i = wordIndex a then laneMask a z else 0

/-- The modified marks of the words a write touches (R3, R19). -/
def touched (a : ByteAddr) (z : Size) : BitVec 8 :=
  match z with
  | .b64 => BitVec.allOnes 8
  | _ => BitVec.ofNat 8 (2 ^ (wordIndex a).val)

/-- A write's bytes stored into a line at their byte positions, the other bytes kept (R19). -/
def storeBytes (old : LineData) (a : ByteAddr) (z : Size) (data : List Word) : LineData :=
  Vector.ofFn fun i =>
    let new := match z with
      | .b64 => data.getD i.val 0
      | _ => data.getD 0 0
    (old[i] &&& ~~~ wordMask a z i) ||| (new &&& wordMask a z i)

/-- The words of a read completion served from a line (R14, section 10.2): the line's words, or one word with the bytes
read in their lanes and the other lanes zero. -/
def readWords (data : LineData) (a : ByteAddr) (z : Size) : List Word :=
  match z with
  | .b64 => data.toList
  | _ => [data[wordIndex a] &&& laneMask a z]

/-- The data words of a direct access or its completion, with the lanes outside the access zero (R191, R192). -/
def laneWords (data : List Word) (a : ByteAddr) (z : Size) : List Word :=
  match z with
  | .b64 => data.take 8
  | _ => [data.getD 0 0 &&& laneMask a z]

/-! ## Request frames (section 10.1) -/

/-- The stream of a request frame, bits 7:4. -/
def QueuedFrame.stream (q : QueuedFrame) : Fin 16 := (field q.word0 4 4).toFin
/-- The request tag of a request frame, bits 13:8. -/
def QueuedFrame.tag (q : QueuedFrame) : Fin 64 := (field q.word0 8 6).toFin
/-- The kind code, bits 3:0. -/
def QueuedFrame.kind (q : QueuedFrame) : Nat := bits q.word0 0 4
/-- The size code, bits 18:16. -/
def QueuedFrame.sizeCode (q : QueuedFrame) : Nat := bits q.word0 16 3
/-- The byte address, bits 63:24. -/
def QueuedFrame.addr (q : QueuedFrame) : ByteAddr := field q.word0 24 40
/-- The unit code, bits 26:24. -/
def QueuedFrame.unit (q : QueuedFrame) : Nat := bits q.word0 24 3
/-- The index, bits 47:32. -/
def QueuedFrame.index (q : QueuedFrame) : Nat := bits q.word0 32 16
/-- The action code, bits 55:48. -/
def QueuedFrame.action (q : QueuedFrame) : Nat := bits q.word0 48 8
/-- The value word of a management request. -/
def QueuedFrame.value (q : QueuedFrame) : Word := q.words.getD 0 0
/-- The argument word of a management request. -/
def QueuedFrame.argument (q : QueuedFrame) : Word := q.words.getD 1 0

/-- The number of words after word 0 that a frame's kind and size code require (section 10.1); none where the code names no
request kind or no size. -/
def requiredWords (word0 : Word) : Option Nat :=
  match bits word0 0 4 with
  | 1 => some 0
  | 2 => (Size.ofCode (bits word0 16 3)).map Size.words
  | 3 => some 2
  | 4 => some 2
  | 5 => some 2
  | _ => none

/-- What the intake side keeps of a request frame (R190): its words when their number is the required one, otherwise word 0
and the mark that the length was wrong. -/
def QueuedFrame.ofWords (word0 : Word) (rest : List Word) : QueuedFrame :=
  if requiredWords word0 = some rest.length then
    { word0 := word0, lengthWrong := false, words := rest }
  else
    { word0 := word0, lengthWrong := true, words := [] }

/-- The indices that exist, by unit (the map of section 8.3). -/
def indexExists (unit index : Nat) : Bool :=
  match unit with
  | 0 => index ≤ 4
  | 1 => index ≤ 15
  | 2 => index ≤ 23 || (32 ≤ index && index ≤ 55) || (256 ≤ index && index ≤ 279) ||
      (288 ≤ index && index ≤ 311) || index == 512
  | 3 => index ≤ 5
  | 4 => index ≤ 2
  | 5 => index ≤ 511 || (1024 ≤ index && index ≤ 1035) || (1040 ≤ index && index ≤ 1043) ||
      (1088 ≤ index && index ≤ 1099) || (1104 ≤ index && index ≤ 1107)
  | 6 => index ≤ 6
  | _ => false

/-- The commands that a head request is selected under: the rows of the table that are about a head. -/
inductive HeadRow where
  | read
  | write
  | streamRecordWrite
  | stagingWindowWrite
  | lineStoreControlWrite
  | noticeSourceWrite
  | mgmtWrite
  | bridgeReset
  | commitWindows
  | stagingReload
  | noticeClear
  | faultTake
  | lineClean
  | linePurge
  | lineDrop
  | storeClean
  | storePurge
  | dlinkRetrain
  | mgmtRead
  | malformedRefusal
  deriving DecidableEq, Repr

/-- The row of a MGMT-WRITE by the index it names; `malformedRefusal` where the index does not exist or is read-only
(R167). -/
def writeRow (unit index : Nat) : HeadRow :=
  match unit with
  | 0 => if index = 2 then .lineStoreControlWrite else .malformedRefusal
  | 1 => if index ≤ 15 then .streamRecordWrite else .malformedRefusal
  | 2 => if index ≤ 23 ∨ (32 ≤ index ∧ index ≤ 55) then .stagingWindowWrite else .malformedRefusal
  | 3 => if index ≤ 5 then .noticeSourceWrite else .malformedRefusal
  | 6 => if index = 1 ∨ index = 2 then .mgmtWrite else .malformedRefusal
  | _ => .malformedRefusal

/-- The row of a MGMT-ACT by the action it names; `malformedRefusal` where the unit has no such action (R167, section
10.1). -/
def actRow (unit action : Nat) : HeadRow :=
  match unit, action with
  | 0, 1 => .bridgeReset
  | 2, 1 => .commitWindows
  | 2, 2 => .stagingReload
  | 3, 1 => .noticeClear
  | 4, 1 => .faultTake
  | 5, 1 => .lineClean
  | 5, 2 => .linePurge
  | 5, 3 => .lineDrop
  | 5, 4 => .storeClean
  | 5, 5 => .storePurge
  | 6, 1 => .dlinkRetrain
  | _, _ => .malformedRefusal

/-- The row under which a head request is selected, by its kind and by what it names (log entry 20). -/
def QueuedFrame.row (q : QueuedFrame) : HeadRow :=
  match q.kind with
  | 1 => .read
  | 2 => .write
  | 3 => if indexExists q.unit q.index then .mgmtRead else .malformedRefusal
  | 4 => writeRow q.unit q.index
  | 5 => actRow q.unit q.action
  | _ => .malformedRefusal

/-- The form check of a READ or WRITE (R111 check 2, R190): reserved bits zero, a size the code names, an address that is a
multiple of it, and the right number of words. -/
def QueuedFrame.accessFormOk (q : QueuedFrame) : Bool :=
  bits q.word0 14 2 == 0 && bits q.word0 19 5 == 0 && !q.lengthWrong &&
    match Size.ofCode q.sizeCode with
    | some z => q.addr.toNat % z.bytes == 0
    | none => false

/-- The reserved fields that every management kind shares, and its length (R190). -/
def QueuedFrame.mgmtFormOk (q : QueuedFrame) : Bool :=
  bits q.word0 14 2 == 0 && bits q.word0 19 5 == 0 && bits q.word0 16 3 == 0 && bits q.word0 27 5 == 0 &&
    bits q.word0 56 8 == 0 && !q.lengthWrong

/-- The form check (R111 check 2, R167, R190). -/
def QueuedFrame.formOk (q : QueuedFrame) : Bool :=
  match q.kind with
  | 1 => q.accessFormOk
  | 2 => q.accessFormOk
  | 3 => q.mgmtFormOk && q.action == 0 && q.value == 0 && q.argument == 0 && indexExists q.unit q.index
  | 4 => q.mgmtFormOk && q.action == 0 && q.argument == 0 && writeRow q.unit q.index != .malformedRefusal
  | 5 => q.mgmtFormOk && q.index == 0 && actRow q.unit q.action != .malformedRefusal
  | _ => false

/-- A request frame is a management request when its kind code is MGMT-READ, MGMT-WRITE or MGMT-ACT. -/
def QueuedFrame.isMgmt (q : QueuedFrame) : Bool := q.kind == 3 || q.kind == 4 || q.kind == 5

/-- The READ or WRITE of a frame that has passed its form check, with the effective policy settled for it (R86). -/
def QueuedFrame.toRequest (q : QueuedFrame) (st : Fin 16) (policy : Policy) : Request where
  stream := st
  tag := q.tag
  isWrite := q.kind == 2
  addr := q.addr
  size := (Size.ofCode q.sizeCode).getD .b1
  data := q.words
  policy := policy
  failure := none

/-- A frame the U-link port takes as a request frame: good CRC and word 0 complete (R105, R190). -/
def requestFrame (f : Frame) : Option QueuedFrame :=
  match f.crcGood, f.words with
  | true, w :: rest => some (QueuedFrame.ofWords w rest)
  | _, _ => none

/-! ## Packets from the home (section 10.3) -/

/-- The packets from the home to the bridge (section 2.1). A WORD-DATA keeps its size code, since a code that differs from
its attempt's is a mismatch and no malformed packet (R192). -/
inductive HomePacket where
  | helloAck (lineSize : BitVec 8) (identity : BitVec 16)
  | dataS (tag : Fin 32) (line : LineAddr) (words : LineData)
  | dataO (tag : Fin 32) (line : LineAddr) (words : LineData)
  | grant (tag : Fin 32) (line : LineAddr)
  | done (tag : Fin 32)
  | wordData (tag : Fin 32) (sizeCode : Nat) (words : List Word)
  | refused (tag : Fin 32)
  | error (tag : Fin 32) (reason : HomeReason)
  | recallShare (homeTag : BitVec 8) (line : LineAddr)
  | recallDrop (homeTag : BitVec 8) (line : LineAddr)
  deriving DecidableEq, Repr

/-- The reason field of an ERROR; 0 is taken as PROTOCOL (R192). -/
def HomeReason.ofCode : Nat → HomeReason
  | 1 => .poisoned
  | 2 => .outOfRange
  | _ => .protocol

/-- The code of a home reason (section 10.3). -/
def HomeReason.code : HomeReason → Nat
  | .poisoned => 1
  | .outOfRange => 2
  | .protocol => 3

/-- The line address of an address word, bits 33:0. -/
def lineOfWord (w : Word) : LineAddr := field w 0 34

/-- Eight words of a packet as a line. -/
def lineOfWords (ws : List Word) : LineData := Vector.ofFn fun i => ws.getD i.val 0

/-- How many words after the header a packet of the given kind code requires, from its size code where that decides; `none`
for a code that is no home-to-bridge kind (section 10.3, R160). Which of the two counts of a WORD-DATA holds where its size code
names no size is a free value (log entry 7). -/
def homeWords (kind : Nat) (sizeCode : BitVec 3) : Option Nat :=
  match kind with
  | 0x11 => some 1
  | 0x12 => some 9
  | 0x13 => some 9
  | 0x14 => some 1
  | 0x15 => some 0
  | 0x16 =>
    match Size.ofCode sizeCode.toNat with
    | some z => some z.words
    | none => some (if Config.wordDataFillsLine sizeCode then 8 else 1)
  | 0x17 => some 0
  | 0x18 => some 0
  | 0x19 => some 1
  | 0x1A => some 1
  | _ => none

/-- The packet of a header word and the words its kind requires after it (R192): the kind code and the fields the kind uses,
reserved fields ignored. -/
def homePacketOf (header : Word) (rest : List Word) : Option HomePacket :=
  let tag : Fin 32 := (field header 8 5).toFin
  let homeTag : BitVec 8 := field header 8 8
  let line := lineOfWord (rest.getD 0 0)
  match bits header 0 5 with
  | 0x11 => some (.helloAck (field (rest.getD 0 0) 0 8) (field (rest.getD 0 0) 16 16))
  | 0x12 => some (.dataS tag line (lineOfWords (rest.drop 1)))
  | 0x13 => some (.dataO tag line (lineOfWords (rest.drop 1)))
  | 0x14 => some (.grant tag line)
  | 0x15 => some (.done tag)
  | 0x16 => some (.wordData tag (bits header 16 3) rest)
  | 0x17 => some (.refused tag)
  | 0x18 => some (.error tag (HomeReason.ofCode (bits header 22 2)))
  | 0x19 => some (.recallShare homeTag line)
  | 0x1A => some (.recallDrop homeTag line)
  | _ => none

/-- A frame from the D-link receiver as a packet; `none` is a bad frame: CRC failed, unknown kind, or fewer words than its
kind requires (R160, R192); surplus words are as if absent. A frame without a complete header word carries no known kind. -/
def homePacket (f : Frame) : Option HomePacket :=
  match f.crcGood, f.words with
  | true, header :: rest =>
    match homeWords (bits header 0 5) (field header 16 3) with
    | some n => if n ≤ rest.length then homePacketOf header (rest.take n) else none
    | none => none
  | _, _ => none

/-! ## Frames and packets sent (sections 10.2, 10.3) -/

/-- The code of a completion status (section 10.2). -/
def Status.code : Status → Nat
  | .ok => 0
  | .retry => 1
  | .streamClosed => 2
  | .malformed => 3
  | .duplicateTag => 4
  | .noWindow => 5
  | .denied => 6
  | .isProtected => 7
  | .failed => 8
  | .linkDown => 9
  | .resetting => 10
  | .busy => 11
  | .invalidValue => 12
  | .invalidTable => 13

/-- The words of a COMPLETION or NOTICE frame (section 10.2, R191). -/
def EgressFrame.encode : EgressFrame → List Word
  | .completion st tag status words =>
    (put 0 8 + put 4 st.val + put 8 tag.val + put 16 status.code + put 20 words.length) :: words
  | .notice target source sequence =>
    [put 0 9 + put 4 target.val + put 16 source.val + put 24 sequence.toNat]

/-- The header word of a tagged request: kind code and D-link tag. -/
def requestHeader (kind : Nat) (tag : Fin 32) : Word := put 0 kind + put 8 tag.val

/-- An address word holding a line address. -/
def lineWord (l : LineAddr) : Word := put 0 l.toNat

/-- The words of a packet to the home (section 10.3, R192). -/
def BridgePacket.encode : BridgePacket → List Word
  | .hello => [put 0 0x01, put 0 Config.lineSize.toNat + put 16 Config.partCode.toNat]
  | .getS t l => [requestHeader 0x02 t, lineWord l]
  | .getO t l => [requestHeader 0x03 t, lineWord l]
  | .upgrade t l => [requestHeader 0x04 t, lineWord l]
  | .putback t l m ws => (requestHeader 0x05 t + put 24 m.toNat) :: lineWord l :: ws.toList
  | .release t l => [requestHeader 0x06 t, lineWord l]
  | .flush t l m ws => (requestHeader 0x07 t + put 24 m.toNat) :: lineWord l :: ws.toList
  | .directRead t a z => [requestHeader 0x08 t + put 16 z.code, put 0 a.toNat]
  | .directWrite t a z data => (requestHeader 0x09 t + put 16 z.code) :: put 0 a.toNat :: laneWords data a z
  | .recallReply h l .notHeld => [put 0 0x0A + put 8 h.toNat + put 20 1, lineWord l]
  | .recallReply h l .clean => [put 0 0x0A + put 8 h.toNat + put 20 2, lineWord l]
  | .recallReply h l (.data m ws) =>
    (put 0 0x0A + put 8 h.toNat + put 20 3 + put 24 m.toNat) :: lineWord l :: ws.toList

end Sys2Proof.Machine
end

