-- ==== Sys2Proof/Machine/Access.lean ====
section
/-! DEFINITION. The one way each piece of state is read and written: accessors and updates over State, by the numbers the
manual gives ways, entries, slots, tags, streams and sources. -/

namespace Sys2Proof.Machine

open Sys2Proof (Word LineAddr ByteAddr Granule LineData Frame)

/-- The line record of a way. -/
def State.line (s : State) (w : WayRef) : LineRecord := (s.store[w.set]).ways[w.way]

/-- Write a way's line record. -/
def State.setLine (s : State) (w : WayRef) (r : LineRecord) : State :=
  { s with store := s.store.set w.set { s.store[w.set] with ways := (s.store[w.set]).ways.set w.way r } }

/-- The victim pointer of a set. -/
def State.victim (s : State) (set : Fin 128) : Fin 4 := (s.store[set]).victim

/-- Write a set's victim pointer. -/
def State.setVictim (s : State) (set : Fin 128) (v : Fin 4) : State :=
  { s with store := s.store.set set { s.store[set] with victim := v } }

/-- Tracker entry `n`; `none` when it is not in use. -/
def State.entry (s : State) (n : Fin 12) : Option TrackerEntry := s.entries[n]

/-- Write tracker entry `n`. -/
def State.setEntry (s : State) (n : Fin 12) (e : Option TrackerEntry) : State :=
  { s with entries := s.entries.set n e }

/-- Eviction slot `k`; `none` when it is FREE. -/
def State.slot (s : State) (k : Fin 4) : Option EvictionSlot := s.slots[k]

/-- Write eviction slot `k`. -/
def State.setSlot (s : State) (k : Fin 4) (e : Option EvictionSlot) : State :=
  { s with slots := s.slots.set k e }

/-- Stream record `st`. -/
def State.stream (s : State) (st : Fin 16) : StreamRecord := s.streams[st]

/-- Write stream record `st`. -/
def State.setStream (s : State) (st : Fin 16) (r : StreamRecord) : State :=
  { s with streams := s.streams.set st r }

/-- The record of D-link tag `t`. -/
def State.tag (s : State) (t : Fin 32) : TagRecord := s.dlink.tags[t]

/-- Write the record of D-link tag `t`. -/
def State.setTag (s : State) (t : Fin 32) (r : TagRecord) : State :=
  { s with dlink := { s.dlink with tags := s.dlink.tags.set t r } }

/-- Notice source `k`. -/
def State.notice (s : State) (k : Fin 6) : NoticeSource := s.notices[k]

/-- Write notice source `k`. -/
def State.setNotice (s : State) (k : Fin 6) (r : NoticeSource) : State :=
  { s with notices := s.notices.set k r }

/-- Write the engine's progress record; `none` is IDLE. -/
def State.setEngine (s : State) (p : Option Progress) : State := { s with engine := p }

/-- Write the U-link port. -/
def State.setULink (s : State) (u : ULink) : State := { s with ulink := u }

/-- Write the D-link controller. -/
def State.setDLink (s : State) (d : DLink) : State := { s with dlink := d }

/-- Write the fault record. -/
def State.setFaults (s : State) (f : FaultRecord) : State := { s with faults := f }

/-- Write the window table. -/
def State.setWindows (s : State) (t : WindowTable) : State := { s with windows := t }

/-- Write the round-robin pointer. -/
def State.setArbiter (s : State) (p : Fin 16) : State := { s with arbiter := p }

/-- "The D-link is UP" (R149). -/
def State.linkUp (s : State) : Bool := s.dlink.state == .up

/-- A bridge reset holds the engine: intake answers RESETTING (R123). -/
def State.resetting (s : State) : Bool :=
  match s.engine with
  | some p => p.action == .bridgeReset
  | none => false

/-- A step of the part, taken only while RESET_N is high: while it is low the state holds its reset values (R194). -/
def whileRunning (s : State) (f : State → State) : Host.Outcome State Fault Refusal :=
  .next (if s.resetN then f s else s)

end Sys2Proof.Machine
end

