-- ==== Sys2Proof/Machine/Flags.lean ====
section
/-! DEFINITION. The egress queue, the fault record and the notice sources: placing a frame, completing a request, logging a
fault entry, setting a source and placing its NOTICE (sections 5.7, 9.1, 9.2). -/

namespace Sys2Proof.Machine

open Sys2Proof (Word LineAddr ByteAddr Granule LineData Frame)

/-! ## The egress queue -/

/-- The egress queue has a free place (R120). -/
def State.room (s : State) : Bool := s.ulink.egress.length < Config.egressCap

/-- Place a frame at the tail of the egress queue (R120); the caller has found a free place. -/
def State.place (s : State) (f : EgressFrame) : State :=
  s.setULink { s.ulink with egress := s.ulink.egress ++ [f] }

/-- Complete an outstanding request: its completion is placed and its tag leaves the stream's set (R113). -/
def State.complete (s : State) (st : Fin 16) (tag : Fin 64) (status : Status) (words : List Word) : State :=
  let r := s.stream st
  (s.setStream st { r with outstanding := r.outstanding.erase tag }).place (.completion st tag status words)

/-! ## Notice sources -/

/-- The six sources (section 9.2). -/
abbrev srcFault : Fin 6 := 0
abbrev srcFaultLost : Fin 6 := 1
abbrev srcWbStall : Fin 6 := 2
abbrev srcDlinkLost : Fin 6 := 3
abbrev srcDlinkReady : Fin 6 := 4
abbrev srcDlinkFaulted : Fin 6 := 5

/-- A source's condition occurs (R184): a clear status becomes set, and with the enable on the NOTICE is due, so the mark
becomes PENDING (R185); a status already set absorbs it. -/
def NoticeSource.raised (n : NoticeSource) : NoticeSource :=
  if n.status then n
  else { n with status := true, mark := if n.enable then .pending else .none }

/-- Set source `k` (R184). -/
def State.raise (s : State) (k : Fin 6) : State := s.setNotice k (s.notice k).raised

/-- Place source `k`'s NOTICE if it is PENDING and a place is free (R185, R188). -/
def State.placeNotice (s : State) (k : Fin 6) : State :=
  let n := s.notice k
  if n.mark = .pending ∧ s.room then
    (s.setNotice k { n with mark := .sent, sequence := n.sequence + 1 }).place (.notice n.target k n.sequence)
  else s

/-- Place the PENDING NOTICEs in ascending source number, one for each free place (R188). -/
def State.placeNotices (s : State) : State := (List.finRange 6).foldl State.placeNotice s

/-- Some source's NOTICE has become PENDING between two states. -/
def becameDue (before after : State) : Bool :=
  (List.finRange 6).any fun k => (after.notice k).mark == .pending && (before.notice k).mark != .pending

/-- The end of an event that may make NOTICEs due: they are placed behind the completions the event placed (R185, R188). -/
def announce (before after : State) : State :=
  if becameDue before after then after.placeNotices else after

/-! ## The fault record -/

/-- A fault entry is formed: appended with FAULT set, or, when the record is full, discarded with the overflow count raised
and FAULT-LOST set (R180, R181). -/
def State.log (s : State) (f : FaultEntry) : State :=
  if s.faults.entries.length < Config.faultCap then
    (s.setFaults { s.faults with entries := s.faults.entries ++ [f] }).raise srcFault
  else
    (s.setFaults { s.faults with overflow := satInc s.faults.overflow }).raise srcFaultLost

/-- The fault entry of a refusal by the window lookup (R85, R179). -/
def accessFault (kind : FaultKind) (st : Fin 16) (tag : Fin 64) (line : LineAddr) : FaultEntry where
  kind := kind
  stream := some st
  requestTag := some tag
  line := some line
  dTag := none
  reason := none
  attempts := none

/-- The fault entry of a tracker entry's final failure (R65, R179). -/
def failureFault (e : TrackerEntry) (status : FailMark) (reason : Option HomeReason) : FaultEntry where
  kind := match status with
    | .failed => .fetchFailed
    | .linkDown => .linkDownFail
  stream := e.parked.head?.map (·.stream)
  requestTag := e.parked.head?.map (·.tag)
  line := some e.line
  dTag := e.lastTag
  reason := reason
  attempts := some e.attempts

/-- The fault entry about one attempt or slot: a mismatch, a slot's ERROR, a stalled write-back (R34, R32, R74, R179). -/
def attemptFault (kind : FaultKind) (line : LineAddr) (t : Fin 32) (reason : Option HomeReason) (attempts : Nat) :
    FaultEntry where
  kind := kind
  stream := none
  requestTag := none
  line := some line
  dTag := some t
  reason := reason
  attempts := some attempts

/-- The fault entry of a reply for a FREE tag (R156, R179). -/
def unknownTagFault (t : Fin 32) (line : Option LineAddr) (reason : Option HomeReason) : FaultEntry where
  kind := .unknownTag
  stream := none
  requestTag := none
  line := line
  dTag := some t
  reason := reason
  attempts := none

end Sys2Proof.Machine
end

