-- ==== Sys2Proof/Machine/Ops.lean ====
section
/-! DEFINITION. The named operations over the line store, the eviction slots, the tags and the tracker entries that the
meanings share: lookup, choice and release of ways, fill and freeing of slots, forming of packets, final failure and
the steps before issue (chapters 1 to 3 and 7). -/

namespace Sys2Proof.Machine

open Sys2Proof (Word LineAddr ByteAddr Granule LineData Frame)

/-! ## Lookups -/

/-- A way holds line `l` (R1, R5): it is not INVALID and its tag is the line's. -/
def LineRecord.holdsTag (r : LineRecord) (l : LineAddr) : Bool := r.state != .invalid && r.tag == tagOf l

/-- The lookup of a line address (R5): the way of its set that holds it, if any. -/
def State.lookup (s : State) (l : LineAddr) : Option WayRef :=
  ((List.finRange 4).find? fun v => (s.line ⟨setOf l, v⟩).holdsTag l).map fun v => ⟨setOf l, v⟩

/-- The state a lookup of `l` answers, INVALID for absent. -/
def State.lookupState (s : State) (l : LineAddr) : LineState :=
  match s.lookup l with
  | some w => (s.line w).state
  | none => .invalid

/-- The line address a way's record names (R1). -/
def State.lineOfWay (s : State) (w : WayRef) : LineAddr := lineAt (s.line w).tag w.set

/-- The tracker entry that names line `l` (R50). -/
def State.entryNaming (s : State) (l : LineAddr) : Option (Fin 12) :=
  (List.finRange 12).find? fun n =>
    match s.entry n with
    | some e => e.line == l
    | none => false

/-- The lowest-numbered tracker entry not in use (R51). -/
def State.freeEntry (s : State) : Option (Fin 12) := (List.finRange 12).find? fun n => (s.entry n).isNone

/-- The lowest-numbered FREE slot (R68). -/
def State.freeSlot (s : State) : Option (Fin 4) := (List.finRange 4).find? fun k => (s.slot k).isNone

/-- The lowest-numbered FREE D-link tag (R155). -/
def State.freeTag (s : State) : Option (Fin 32) := (List.finRange 32).find? fun t => s.tag t == .free

/-- Some slot in use satisfies `p`. -/
def State.anySlot (s : State) (p : EvictionSlot → Bool) : Bool :=
  (List.finRange 4).any fun k =>
    match s.slot k with
    | some sl => p sl
    | none => false

/-- A way is closed to maintenance (R129): it is held, or it holds a line that a tracker entry names. -/
def State.closed (s : State) (w : WayRef) : Bool :=
  (s.line w).holder != .none || ((s.line w).state != .invalid && (s.entryNaming (s.lineOfWay w)).isSome)

/-! ## Ways -/

/-- A way's holder becomes none if it is `h` (R7). -/
def State.releaseWay (s : State) (h : Holder) (w : WayRef) : State :=
  if (s.line w).holder = h then s.setLine w { s.line w with holder := .none } else s

/-- A line leaves its way: INVALID, marks clear; tag, data and holder kept (R2, R3). -/
def LineRecord.emptied (r : LineRecord) : LineRecord := { r with state := .invalid, marks := 0 }

/-- Install a reply into a way (R12): the entry's line, the reply's state and data, marks clear, the holder kept. -/
def LineRecord.install (r : LineRecord) (l : LineAddr) (st : LineState) (data : LineData) : LineRecord :=
  { r with tag := tagOf l, state := st, marks := 0, data := data }

/-- A write hit (R15, R19): the bytes are stored, the touched words marked, and the line is MODIFIED. -/
def LineRecord.writeHit (r : LineRecord) (q : Request) : LineRecord :=
  { r with
    data := storeBytes r.data q.addr q.size q.data
    marks := r.marks ||| touched q.addr q.size
    state := .modified }

/-- A WRITE-THROUGH store into a SHARED line (R16): the bytes are stored and nothing is marked. -/
def LineRecord.storeShared (r : LineRecord) (q : Request) : LineRecord :=
  { r with data := storeBytes r.data q.addr q.size q.data }

/-! ## The engine's view of other events -/

/-- A slot of the running action leaves its own-slot set when it frees, and an action or walk that waits for a slot owes
its repeat (R68, R134, R138, R140). -/
def Progress.onSlotFreed (p : Progress) (k : Fin 4) : Progress :=
  { p with
    own := p.own.filter (· != k)
    wake := p.wake || p.phase == .waitSlot || p.walkWait == .slot }

/-- The way that a line action in WAIT-LINE, or a reset purge's revisit, waits on has opened: the repeat is owed (R130,
R139). -/
def State.noteOpening (s : State) : State :=
  match s.engine with
  | some p =>
    if (p.phase = .waitLine ∨ p.walkWait = .opening) ∧ s.closed p.position = false then
      s.setEngine (some { p with wake := true })
    else s
  | none => s

/-! ## Eviction slots -/

/-- The slot is PARKED (section 3.6). -/
def SlotState.isParked : SlotState → Bool
  | .parked _ => true
  | _ => false

/-- The slot that carries a line out of its way (R69): the way's marks as word mask and its words, no mask for a RELEASE;
the words of a RELEASE are recorded only while it is PARKED, for the restore (R10, R13; log entry 10). -/
def EvictionSlot.ofLine (kind : SlotKind) (state : SlotState) (w : WayRef) (r : LineRecord) : EvictionSlot where
  state := state
  kind := kind
  line := lineAt r.tag w.set
  mask := if kind = .release then 0 else r.marks
  data := if kind = .release ∧ state.isParked = false then Vector.replicate 8 0 else r.data
  origin := w
  originState := r.state
  attempts := 0
  stallReported := false

/-- The way record a PARKED victim is restored as (R13): its tag, state, data and marks back, held by nobody. -/
def EvictionSlot.restored (sl : EvictionSlot) : LineRecord where
  tag := tagOf sl.line
  state := sl.originState
  marks := sl.mask
  data := sl.data
  holder := .none

/-- The D-link tag of a slot in SENDING or ANSWERED (section 3.6). -/
def SlotState.tag? : SlotState → Option (Fin 32)
  | .sending t => some t
  | .answered t => some t
  | _ => none

/-- A slot that a recall may still answer from: PARKED, QUEUED or SENDING (R38). -/
def SlotState.examined : SlotState → Bool
  | .answered _ => false
  | _ => true

/-! ## Tracker entries -/

/-- The entry waits with a reason (section 3.2); a repeat is owed only from the next freeing of a slot on. -/
def TrackerEntry.wait (e : TrackerEntry) (why : Reason) : TrackerEntry := { e with phase := .waiting why, wake := false }

/-- The kinds that obtain a way by victim choice (section 3.2, step 2). -/
def EntryKind.isFetch : EntryKind → Bool
  | .fetchS => true
  | .fetchO => true
  | _ => false

/-- Step 1 cannot be passed (R53): a PUTBACK or RELEASE slot carries the line, or, for an UPGRADE or PURGE-DIRECT entry, a
FLUSH slot holds the line's way. DEDUCED (log entry 17): the way the line is in tells it by its holder field. DESIGN CHOICE (log
entry 36): where a RECALL-DROP made the way of an ANSWERED FLUSH slot INVALID (R40, R73), R53 and R68 disagree and the model
follows R53. That slot keeps no FETCH, direct or PURGE-DIRECT entry of its line waiting, so the line may be fetched into another
way, and from there moved into a second slot, while the first slot still carries its address. -/
def State.lineInSlot (s : State) (e : TrackerEntry) : Bool :=
  s.anySlot (fun sl => sl.line == e.line && sl.kind != .flush) ||
    ((e.kind == .upgrade || e.kind == .purgeDirect) &&
      match s.lookup e.line with
      | some w =>
        match (s.line w).holder with
        | .slot _ => true
        | _ => false
      | none => false)

/-- What the freeing of a slot that carried `l` does to an entry (R53, R54, R55, R68): a LINE-IN-SLOT wait for the line
ends in ENDING, and a NO-SLOT wait owes its repeat. `s` is the state with the slot free. -/
def TrackerEntry.onSlotFreed (s : State) (l : LineAddr) (e : TrackerEntry) : TrackerEntry :=
  match e.phase with
  | .waiting .lineInSlot => if e.line = l ∧ s.lineInSlot e = false then { e with phase := .ending } else e
  | .waiting .noSlot => { e with wake := true }
  | _ => e

/-- A slot frees (R68): its fields are cleared, the way a FLUSH held stops being held, and everyone who waits for the slot
or for its line sees it in the same step. -/
def State.releaseSlot (s : State) (k : Fin 4) : State :=
  match s.slot k with
  | none => s
  | some sl =>
    let s := s.setSlot k none
    let s := if sl.kind = .flush then s.releaseWay (.slot k) sl.origin else s
    let s := { s with entries := s.entries.map (Option.map (TrackerEntry.onSlotFreed s sl.line)) }
    s.setEngine (s.engine.map (·.onSlotFreed k))

/-- The packet of an entry's attempt under tag `t` (R59, R24 to R27). A direct packet takes its fields from the first parked
request; an entry always has one (R50). -/
def TrackerEntry.packet (e : TrackerEntry) (t : Fin 32) : Option BridgePacket :=
  match e.kind with
  | .fetchS => some (.getS t e.line)
  | .fetchO => some (.getO t e.line)
  | .upgrade => some (if e.converted then .getO t e.line else .upgrade t e.line)
  | .directRead => e.parked.head?.map fun r => .directRead t r.addr r.size
  | .directWrite => e.parked.head?.map fun r => .directWrite t r.addr r.size r.data
  | .purgeDirect => e.parked.head?.map fun r =>
      if r.isWrite then .directWrite t r.addr r.size r.data else .directRead t r.addr r.size

/-- The packet of a slot's attempt under tag `t` (R26). -/
def EvictionSlot.packet (sl : EvictionSlot) (t : Fin 32) : BridgePacket :=
  match sl.kind with
  | .putback => .putback t sl.line sl.mask sl.data
  | .release => .release t sl.line
  | .flush => .flush t sl.line sl.mask sl.data

/-- A packet is formed: it joins the tail of the D-link transmitter's queue (R23). DESIGN CHOICE (log entry 29): the queue has no
bound, because a request packet stays in it when its attempt ends by its timer before it has left. -/
def State.form (s : State) (p : BridgePacket) : State :=
  s.setDLink { s.dlink with tx := s.dlink.tx ++ [p] }

/-- A tag is given to a sender and its response timer starts at the timeout then set (R155, R157). -/
def State.takeTag (s : State) (t : Fin 32) (o : Owner) : State := s.setTag t (.inUse o s.dlink.timeout)

/-- Tracker entry `n` issues under tag `t` (R59). -/
def State.issue (s : State) (n : Fin 12) (t : Fin 32) : State :=
  match s.entry n with
  | none => s
  | some e =>
    let s := (s.takeTag t (.entry n)).setEntry n
      (some { e with phase := .issued t, attempts := e.attempts + 1, lastTag := some t })
    match e.packet t with
    | some p => s.form p
    | none => s

/-- The failure mark of a final failure is set on a request (R65). -/
def Request.markFailed (status : FailMark) (r : Request) : Request := { r with failure := some status }

/-- A PARKED victim returns to the way it came from and its slot frees (R13, R70). -/
def State.restoreVictim (s : State) (k : Fin 4) : State :=
  match s.slot k with
  | none => s
  | some sl =>
    match sl.state with
    | .parked _ => (s.setLine sl.origin sl.restored).releaseSlot k
    | _ => s

/-- A final failure releases the way the entry holds (R13, R66): a FETCH's way becomes INVALID, an UPGRADE's is left in its
state. -/
def State.failWay (s : State) (e : TrackerEntry) : State :=
  match e.way with
  | none => s
  | some w =>
    if e.kind.isFetch then s.setLine w { (s.line w).emptied with holder := .none }
    else s.setLine w { s.line w with holder := .none }

/-- A DIRECT-WRITE whose bytes were stored into a SHARED line fails: a line still SHARED becomes INVALID (R16). -/
def State.failStored (s : State) (e : TrackerEntry) : State :=
  if e.storedShared then
    match s.lookup e.line with
    | some w => if (s.line w).state = .shared then s.setLine w (s.line w).emptied else s
    | none => s
  else s

/-- A tracker entry fails finally (R65, R66): one fault entry, the way released, a parked victim restored, every parked
request marked, the entry ENDING. The tag has left the entry already, as the event that ended the attempt gives. That the
converted mark ends here is DEDUCED: R25 keeps it until the entry frees or fails, and R66 does not name it (log entry 30). -/
def State.failFinal (s : State) (n : Fin 12) (status : FailMark) (reason : Option HomeReason) : State :=
  match s.entry n with
  | none => s
  | some e =>
    let s := s.log (failureFault e status reason)
    let s := s.setEntry n (some { e with
      phase := .ending, way := none, victim := none, converted := false, answer := .none, storedShared := false
      parked := e.parked.map (Request.markFailed status) })
    let s := (s.failWay e).failStored e
    match e.victim with
    | some k => s.restoreVictim k
    | none => s

/-- Step 4 (R58): the lowest FREE tag and issue, a NO-TAG wait, or final failure while the D-link is not UP. -/
def State.step4 (s : State) (n : Fin 12) : State :=
  match s.entry n with
  | none => s
  | some e =>
    if s.linkUp then
      match s.freeTag with
      | some t => s.issue n t
      | none => s.setEntry n (some (e.wait .noTag))
    else s.failFinal n .linkDown none

/-- A PURGE-DIRECT entry that waits for its slot to be sent: no QUEUED slot carries its line any more (R56). -/
def State.sentOrFreed (s : State) (n : Fin 12) : Bool :=
  match s.entry n with
  | some e => e.phase == .waiting .slotNotSent && !s.anySlot fun sl => sl.line == e.line && sl.state == .queued
  | none => false

/-- The SLOT-NOT-SENT waits that a slot's sending or freeing ends go to step 4 in the same step (R56). -/
def State.endSlotNotSent (s : State) : State :=
  (List.finRange 12).foldl (fun s n => if s.sentOrFreed n then s.step4 n else s) s

/-- The attempts of a slot after one more, saturating at 255 (R71). -/
def EvictionSlot.nextAttempts (sl : EvictionSlot) : Nat := min 255 (sl.attempts + 1)

/-- The attempt about to be formed makes the slot report a stalled write-back (R74). -/
def State.stalls (s : State) (sl : EvictionSlot) : Bool :=
  !sl.stallReported && 1 + s.dlink.retryLimit.toNat < sl.nextAttempts

/-- Slot `k` becomes SENDING under tag `t` (R71, R74): its packet is formed, its timer starts, and a slot past the retry
limit reports WRITEBACK-STALLED once in its occupancy. -/
def State.sendSlot (s : State) (k : Fin 4) (t : Fin 32) : State :=
  match s.slot k with
  | none => s
  | some sl =>
    let stall := s.stalls sl
    let s := ((s.takeTag t (.slot k)).setSlot k (some { sl with
      state := .sending t, attempts := sl.nextAttempts, stallReported := sl.stallReported || stall })).form (sl.packet t)
    if stall then
      (s.log (attemptFault .writebackStalled sl.line t none sl.nextAttempts)).raise srcWbStall
    else s

/-- A QUEUED slot asks for a tag (R71): with the D-link UP and a tag FREE it is sent. -/
def State.askTag (s : State) (k : Fin 4) : State :=
  match s.slot k with
  | some sl =>
    if sl.state = .queued ∧ s.linkUp then
      match s.freeTag with
      | some t => s.sendSlot k t
      | none => s
    else s
  | none => s

/-- A slot has become QUEUED: it asks for a tag at once, and an entry that waits for its sending goes on (R56, R71). -/
def State.queueSlot (s : State) (k : Fin 4) : State := (s.askTag k).endSlotNotSent

/-- Victim choice in a set (R9): the way, and whether step 2 picked it, so that the pointer moves. -/
def State.chooseWay (s : State) (set : Fin 128) : Option (Fin 4 × Bool) :=
  let open1 := (List.finRange 4).find? fun v =>
    (s.line ⟨set, v⟩).state == .invalid && (s.line ⟨set, v⟩).holder == .none
  match open1 with
  | some v => some (v, false)
  | none =>
    let order := (List.finRange 4).map fun i => s.victim set + i
    (order.find? fun v => (s.line ⟨set, v⟩).holder == .none).map fun v => (v, true)

/-- The choice takes effect on the way (R10): INVALID, marks clear, held by the entry; the pointer moves past a way that
step 2 picked. -/
def State.reserveWay (s : State) (n : Fin 12) (w : WayRef) (moves : Bool) : State :=
  let s := s.setLine w { (s.line w).emptied with holder := .entry n }
  if moves then s.setVictim w.set (w.way + 1) else s

/-- Step 2 (R9, R10, R55): a FETCH entry obtains a way, parking an OWNED or MODIFIED victim, and goes to step 4; or it waits
NO-WAY or NO-SLOT with nothing changed. -/
def State.victimStep (s : State) (n : Fin 12) : State :=
  match s.entry n with
  | none => s
  | some e =>
    match s.chooseWay (setOf e.line) with
    | none => s.setEntry n (some (e.wait .noWay))
    | some (v, moves) =>
      let w : WayRef := ⟨setOf e.line, v⟩
      let r := s.line w
      let taken := { e with way := some w, wake := false }
      if r.state = .owned ∨ r.state = .modified then
        match s.freeSlot with
        | none => s.setEntry n (some (e.wait .noSlot))
        | some k =>
          let kind := if r.state = .modified then SlotKind.putback else SlotKind.release
          (((s.setSlot k (some (EvictionSlot.ofLine kind (.parked n) w r))).reserveWay n w moves).setEntry n
            (some { taken with victim := some k })).step4 n
      else ((s.reserveWay n w moves).setEntry n (some taken)).step4 n

/-- A present line is taken out of its way into slot `k`, QUEUED (R17, R132): a PUTBACK for a MODIFIED line, a RELEASE for
an OWNED one. The holder of the way and the victim pointer are not touched. -/
def State.evictInto (s : State) (k : Fin 4) (w : WayRef) : State :=
  let r := s.line w
  let kind := if r.state = .modified then SlotKind.putback else SlotKind.release
  (s.setSlot k (some (EvictionSlot.ofLine kind .queued w r))).setLine w r.emptied

/-- Step 3 (R17, R56): a PURGE-DIRECT entry's eviction step. It waits SLOT-NOT-SENT for the slot it filled, NO-SLOT for one
it needs, and otherwise goes to step 4. -/
def State.evictStep (s : State) (n : Fin 12) : State :=
  match s.entry n with
  | none => s
  | some e =>
    match s.lookup e.line with
    | none => s.step4 n
    | some w =>
      let r := s.line w
      if r.state = .owned ∨ r.state = .modified then
        match s.freeSlot with
        | none => s.setEntry n (some (e.wait .noSlot))
        | some k => ((s.evictInto k w).setEntry n (some (e.wait .slotNotSent))).queueSlot k
      else (s.setLine w r.emptied).step4 n

/-- An UPGRADE entry takes the hold on its line's way, or keeps it (R7, R57). -/
def State.holdUpgrade (s : State) (n : Fin 12) : State :=
  match s.entry n with
  | none => s
  | some e =>
    match s.lookup e.line with
    | none => s
    | some w =>
      (s.setLine w { s.line w with holder := .entry n }).setEntry n (some { e with way := some w })

/-- The steps before issue, from step 1 (section 3.2). -/
def State.step1 (s : State) (n : Fin 12) : State :=
  match s.entry n with
  | none => s
  | some e =>
    if s.lineInSlot e then s.setEntry n (some (e.wait .lineInSlot))
    else
      match e.kind with
      | .upgrade => (s.holdUpgrade n).step4 n
      | .purgeDirect => s.evictStep n
      | .directRead => s.step4 n
      | .directWrite => s.step4 n
      | .fetchS => if e.way.isSome then s.step4 n else s.victimStep n
      | .fetchO => if e.way.isSome then s.step4 n else s.victimStep n

/-! ## Local access effects (section 1.7) -/

/-- What the table of section 1.7 names for a request: nothing for a hit, else the tracker work. -/
def trackerWork (isWrite : Bool) (policy : Policy) (found : LineState) : Option EntryKind :=
  match policy, isWrite, found with
  | .writeBack, false, .invalid => some .fetchS
  | .writeThrough, false, .invalid => some .fetchS
  | .writeBack, false, _ => none
  | .writeThrough, false, _ => none
  | .writeBack, true, .invalid => some .fetchO
  | .writeBack, true, .shared => some .upgrade
  | .writeBack, true, _ => none
  | .writeThrough, true, .invalid => some .directWrite
  | .writeThrough, true, .shared => some .directWrite
  | .writeThrough, true, _ => none
  | _, false, .invalid => some .directRead
  | _, true, .invalid => some .directWrite
  | _, _, _ => some .purgeDirect

/-- The line address of a request. -/
def Request.line (r : Request) : LineAddr := lineOfAddr r.addr

/-- The tracker work of a request against the store as it stands (R14 to R17). -/
def State.work (s : State) (r : Request) : Option EntryKind := trackerWork r.isWrite r.policy (s.lookupState r.line)

/-- The effect of a hit on the store (R14, R15): a read changes nothing, a write is stored and marked. -/
def State.hit (s : State) (r : Request) : State :=
  match s.lookup r.line with
  | some w => if r.isWrite then s.setLine w ((s.line w).writeHit r) else s
  | none => s

/-- The words a hit's completion carries (R115). -/
def State.hitWords (s : State) (r : Request) : List Word :=
  match s.lookup r.line with
  | some w => if r.isWrite then [] else readWords (s.line w).data r.addr r.size
  | none => []

/-- A WRITE-THROUGH write that makes or turns a DIRECT-WRITE entry against a SHARED line stores its bytes (R16). -/
def State.storeThrough (s : State) (k : EntryKind) (r : Request) : State :=
  match k, s.lookup r.line with
  | .directWrite, some w => s.setLine w ((s.line w).storeShared r)
  | _, _ => s

/-- Whether `storeThrough` stored into a line. -/
def State.storesThrough (s : State) (k : EntryKind) (r : Request) : Bool :=
  k == .directWrite && (s.lookup r.line).isSome

/-- Entry `n` is created for a request (R51): its fields at their first values, then the steps before issue. -/
def State.createEntry (s : State) (n : Fin 12) (k : EntryKind) (r : Request) : State :=
  let e : TrackerEntry := {
    line := r.line, kind := k, phase := .waiting .lineInSlot, way := none, victim := none, attempts := 0
    converted := false, epoch := s.windows.epoch, parked := [r], lastTag := none
    storedShared := s.storesThrough k r, answer := .none, wake := false }
  ((s.storeThrough k r).setEntry n (some e)).step1 n

/-- The entry's hold on its way ends where its new kind is a direct one (R7, R63). -/
def State.turnWay (s : State) (n : Fin 12) (e : TrackerEntry) (k : EntryKind) : State × Option WayRef :=
  match k, e.way with
  | .directRead, some w => (s.releaseWay (.entry n) w, none)
  | .directWrite, some w => (s.releaseWay (.entry n) w, none)
  | .purgeDirect, some w => (s.releaseWay (.entry n) w, none)
  | _, w => (s, w)

/-- Entry `n` turns into kind `k` for its front request (R63), and takes its steps from step 1. The tag of the entry's last
attempt is kept for the fault entry of a final failure (R65; log entry 12). -/
def State.turnEntry (s : State) (n : Fin 12) (k : EntryKind) (r : Request) : State :=
  match s.entry n with
  | none => s
  | some e =>
    let stored := s.storesThrough k r
    let (s, way) := (s.storeThrough k r).turnWay n e k
    (s.setEntry n (some { e with
      kind := k, phase := .waiting .lineInSlot, way := way, attempts := 0, converted := false
      storedShared := stored, answer := .none, wake := false })).step1 n

/-- A failed attempt of a tracker entry (R60): its next attempt at step 4, or final failure with FAILED. -/
def State.failAttempt (s : State) (n : Fin 12) : State :=
  match s.entry n with
  | none => s
  | some e =>
    if e.attempts < 1 + s.dlink.retryLimit.toNat then s.step4 n else s.failFinal n .failed none

/-- Slot `k` forms its next attempt: QUEUED, and it asks for a tag (R72). -/
def State.requeueSlot (s : State) (k : Fin 4) : State :=
  match s.slot k with
  | some sl => (s.setSlot k (some { sl with state := .queued })).queueSlot k
  | none => s

/-- An entry's blocked streams are lifted when a request leaves its list (R108): the ENTRY-FULL marks for its line. -/
def StreamRecord.liftFull (l : LineAddr) (r : StreamRecord) : StreamRecord :=
  if r.blocked = .entryFull l then { r with blocked := .clear } else r

/-- Every stream's blocked mark is lifted when an entry frees (R64, R108). -/
def StreamRecord.lift (r : StreamRecord) : StreamRecord := { r with blocked := .clear }

/-- Entry `n` frees (R64): its way stops being held, it names no line, and every blocked mark is lifted. -/
def State.freeEntryAt (s : State) (n : Fin 12) : State :=
  match s.entry n with
  | none => s
  | some e =>
    let s := match e.way with
      | some w => s.releaseWay (.entry n) w
      | none => s
    let s := s.setEntry n none
    { s with streams := s.streams.map StreamRecord.lift }

end Sys2Proof.Machine
end

