-- ==== Sys2Proof/Machine/Engine.lean ====
section
/-! DEFINITION. The maintenance engine's shared operations (chapter 6): closing an action, the phases that end by
themselves, CLEAR, and the end of every event that other blocks may be waiting for. -/

namespace Sys2Proof.Machine

open Sys2Proof (Word LineAddr ByteAddr Granule LineData Frame)

/-- The code of a line action's outcome (section 10.2). -/
def LineOutcome.code : LineOutcome → Nat
  | .notPresent => 1
  | .unchanged => 2
  | .cleaned => 3
  | .purged => 4
  | .dropped => 5

/-- The code of a line state (probe word and result word, ch. 10). -/
def LineState.code : LineState → Nat
  | .invalid => 0
  | .shared => 1
  | .owned => 2
  | .modified => 3

/-- The result words of an action completed OK (R95, R135, R140, R148; section 10.2). -/
def Progress.resultWords (p : Progress) : List Word :=
  match p.action with
  | .lineClean | .linePurge | .lineDrop => [put 0 p.outcome.code + put 4 p.found.code]
  | .storeClean | .storePurge | .commit => [put 0 p.purged + put 16 p.cleaned + put 32 p.skipped]
  | .bridgeReset => []

/-- An action is ready to finish (R128): its completion is placed and the engine is IDLE, or it waits in FINISHING. -/
def State.finish (s : State) (p : Progress) : State :=
  if s.room then (s.setEngine none).complete p.stream p.tag .ok p.resultWords
  else s.setEngine (some { p with phase := .finishing })

/-- No tracker entry is in use (R144). -/
def State.noEntry (s : State) : Bool := (List.finRange 12).all fun n => (s.entry n).isNone

/-- No tracker entry in use carries an epoch other than the current one (R92). -/
def State.noOldEntry (s : State) : Bool :=
  (List.finRange 12).all fun n =>
    match s.entry n with
    | some e => e.epoch == s.windows.epoch
    | none => true

/-- Every eviction slot is FREE (R146). -/
def State.slotsFree (s : State) : Bool := (List.finRange 4).all fun k => (s.slot k).isNone

/-- No request remains in the intake queues (R143). -/
def State.intakeEmpty (s : State) : Bool := (List.finRange 16).all fun st => (s.stream st).queue.isEmpty

/-- Stream record `st` after CLEAR (R125): the power-on values, but the intake queue as it stands (empty) and the
outstanding BRIDGE-RESET kept. -/
def State.clearedStream (s : State) (p : Progress) (st : Fin 16) : StreamRecord :=
  { StreamRecord.reset st with
    outstanding := if st = p.stream then [p.tag] else []
    queue := (s.stream st).queue }

/-- CLEAR (R147): in one step every block that has a bridge-reset value takes it. The D-link state, signal record, training
timer, home identity, receiver and transmitter, the egress queue, the U-link port's lock and receiver, the tracker
entries, the slots and the engine are kept. -/
def State.clear (s : State) (p : Progress) : State :=
  { s with
    store := resetStore
    windows := WindowTable.reset
    lineStoreOn := true
    streams := Vector.ofFn (s.clearedStream p)
    arbiter := 0
    ulink := { s.ulink with badFrames := 0 }
    dlink := { s.dlink with
      timeout := DLink.reset.timeout, retryLimit := DLink.reset.retryLimit, tags := DLink.reset.tags
      badFrames := 0, staleReplies := 0, unknownTags := 0, timeouts := 0 }
    faults := FaultRecord.reset
    notices := Vector.replicate 6 NoticeSource.reset }

/-- A bridge reset's PURGE begins: its walk starts at set 0 way 0 (R145, R136). -/
def Progress.startPurge (p : Progress) : Progress :=
  { p with phase := .purgeFirstPass, position := ⟨0, 0⟩, passedOver := [], walkWait := .none, wake := false }

/-- The phases that end as soon as what they wait for holds, each next one beginning in the same step: WAIT-FREE (R135,
R140), a commit's DRAIN (R92), and a bridge reset's REFUSING, DRAIN and SETTLE with CLEAR (R143, R144, R146, R147). -/
def State.advance (s : State) : State :=
  match s.engine with
  | none => s
  | some p =>
    match p.phase with
    | .waitFree => if p.own = [] then s.finish p else s
    | .refusing =>
      if s.intakeEmpty then
        if s.noEntry then s.setEngine (some p.startPurge) else s.setEngine (some { p with phase := .drain })
      else s
    | .drain =>
      match p.action with
      | .bridgeReset => if s.noEntry then s.setEngine (some p.startPurge) else s
      | _ => if s.noOldEntry then s.setEngine (some { p with phase := .firstPass }) else s
    | .settle => if s.slotsFree then (s.clear p).finish p else s
    | _ => s

/-- The end of an event: an opening the engine waits for is noted, the engine's phases advance, and NOTICEs that became due
are placed behind every completion of the event (R130, R128, R185, R188). DESIGN CHOICE (log entry 33): where the event also ends
SETTLE, CLEAR comes before the NOTICEs it made due, which are so withdrawn (R147, R189). -/
def wrapUp (before after : State) : State := announce before after.noteOpening.advance

/-! ## Line actions (section 6.3) -/

/-- The progress record of an action that takes the engine (R127): own slots empty, counts 0, a walk's position set 0 way 0
(R136). DESIGN CHOICE (log entry 35): what the manual gives no value at the start, and nothing reads before the action sets it
(the outcome and the state found; the line of a walk; the position of a line action), holds a first value here. -/
def Progress.start (a : Action) (st : Fin 16) (tag : Fin 64) (line : LineAddr) (phase : EnginePhase) : Progress where
  action := a
  stream := st
  tag := tag
  line := line
  phase := phase
  position := ⟨0, 0⟩
  passedOver := []
  own := []
  purged := 0
  cleaned := 0
  skipped := 0
  outcome := .notPresent
  found := .invalid
  walkWait := .none
  wake := false

/-- A MODIFIED line is cleaned into slot `k` (R69, R131): the slot copies its marks and words and holds the way, which is
OWNED with its marks clear. -/
def State.flushInto (s : State) (k : Fin 4) (w : WayRef) : State :=
  let r := s.line w
  (s.setSlot k (some (EvictionSlot.ofLine .flush .queued w r))).setLine w
    { r with state := .owned, marks := 0, holder := .slot k }

/-- A line is dropped into slot `k` (R69, R133): a RELEASE without data, the way INVALID. -/
def State.dropInto (s : State) (k : Fin 4) (w : WayRef) : State :=
  let r := s.line w
  (s.setSlot k (some (EvictionSlot.ofLine .release .queued w r))).setLine w r.emptied

/-- What a line action does to an open, present line in state `found` (R131, R132, R133). -/
inductive LineTreatment where
  /-- Nothing. -/
  | leave (outcome : LineOutcome)
  /-- The way becomes INVALID; nothing is sent. -/
  | empty (outcome : LineOutcome)
  /-- A slot is filled. -/
  | fill (outcome : LineOutcome)
  deriving DecidableEq, Repr

/-- The tables of R131, R132 and R133. -/
def lineTreatment (a : Action) (found : LineState) : LineTreatment :=
  match a, found with
  | .lineClean, .modified => .fill .cleaned
  | .lineClean, _ => .leave .unchanged
  | .linePurge, .shared => .empty .purged
  | .linePurge, _ => .fill .purged
  | _, .shared => .empty .dropped
  | _, _ => .fill .dropped

/-- A line action's treatment fills slot `k` (R131 to R133); a LINE-DROP of a MODIFIED line logs DATA-DISCARDED. -/
def State.fillForLine (s : State) (p : Progress) (k : Fin 4) (w : WayRef) : State :=
  match p.action with
  | .lineClean => s.flushInto k w
  | .linePurge => s.evictInto k w
  | _ =>
    if (s.line w).state = .modified then
      (s.dropInto k w).log (accessFault .dataDiscarded p.stream p.tag p.line)
    else s.dropInto k w

/-- A line action makes its step (R130, R134). -/
def State.lineStep (s : State) (p : Progress) : State :=
  match s.lookup p.line with
  | none => s.finish { p with outcome := .notPresent, found := .invalid }
  | some w =>
    if s.closed w then s.setEngine (some { p with phase := .waitLine, position := w, wake := false })
    else
      let found := (s.line w).state
      match lineTreatment p.action found with
      | .leave o => s.finish { p with outcome := o, found := found }
      | .empty o => (s.setLine w (s.line w).emptied).finish { p with outcome := o, found := found }
      | .fill o =>
        match s.freeSlot with
        | none => s.setEngine (some { p with phase := .waitSlot, wake := false })
        | some k =>
          let p := { p with phase := .waitFree, own := [k], outcome := o, found := found, wake := false }
          ((s.setEngine (some p)).fillForLine p k w).queueSlot k

/-! ## Walks (section 6.4) -/

/-- The covering window of a granule in the active copy (R84). -/
def WindowTable.covering (t : WindowTable) (g : Granule) : Option WindowRecord :=
  t.active.find? fun r => decide (r.start ≤ g ∧ g ≤ r.last)

/-- What a walk does to a line (R137). -/
inductive Treatment where
  | keep
  | clean
  | purge
  deriving DecidableEq, Repr

/-- The commit sweep's decision by the line's window (R93). -/
def sweepTreatment (win : Option WindowRecord) (found : LineState) : Treatment :=
  match win with
  | none => .purge
  | some r =>
    match r.kind, r.ceiling, found with
    | .deny, _, _ => .purge
    | .far, .bypass, _ => .purge
    | .far, .writeThrough, .modified => .clean
    | .far, .writeThrough, _ => .keep
    | .far, .writeBack, _ => .keep

/-- A walk's decision for an open way that holds a line (R137). -/
def State.treatment (s : State) (a : Action) (w : WayRef) : Treatment :=
  match a with
  | .storeClean => if (s.line w).state = .modified then .clean else .keep
  | .commit => sweepTreatment (s.windows.covering (granuleOfLine (s.lineOfWay w))) (s.line w).state
  | _ => .purge

/-- The way after a way in the walk's order (R136); none after set 127 way 3. -/
def nextWay (w : WayRef) : Option WayRef :=
  if w.way ≠ 3 then some ⟨w.set, w.way + 1⟩
  else if w.set ≠ 127 then some ⟨w.set + 1, 0⟩
  else none

/-- A walk has ended its revisit (R139, R140, R145): a reset purge ends and SETTLE begins, another walk enters WAIT-FREE. -/
def Progress.endRevisit (p : Progress) : Progress :=
  { p with phase := if p.action = .bridgeReset then .settle else .waitFree, walkWait := .none, wake := false }

/-- The first pass moves on from its position, into REVISIT after the last way (R136, R139). -/
def Progress.moveOn (p : Progress) : Progress :=
  match nextWay p.position with
  | some w => { p with position := w, walkWait := .none, wake := false }
  | none =>
    if p.passedOver = [] then p.endRevisit
    else
      { p with
        phase := if p.action = .bridgeReset then .purgeRevisit else .revisit
        walkWait := .none
        wake := false }

/-- The revisit moves on past the head of the passed-over list (R139). -/
def Progress.dropHead (p : Progress) : Progress :=
  let rest := p.passedOver.tail
  if rest = [] then ({ p with passedOver := [] }).endRevisit
  else { p with passedOver := rest, walkWait := .none, wake := false }

/-- A purge counts unless the walk is a reset purge, which keeps no counts (R137). -/
def Progress.countPurge (p : Progress) : Progress :=
  if p.action = .bridgeReset then p else { p with purged := p.purged + 1 }

/-- A walk visits way `w` when it is open (R136, R137, R138): `next` moves the record on once the visit has taken effect, and
a decision that needs a slot while none is FREE leaves the walk waiting at the way. -/
def State.visitOpen (s : State) (p : Progress) (w : WayRef) (next : Progress → Progress) : State :=
  let r := s.line w
  if r.state = .invalid then s.setEngine (some (next p))
  else
    let waiting := s.setEngine (some { p with position := w, walkWait := .slot, wake := false })
    match s.treatment p.action w with
    | .keep => s.setEngine (some (next p))
    | .clean =>
      match s.freeSlot with
      | none => waiting
      | some k =>
        ((s.setEngine (some (next { p with own := p.own.insert k, cleaned := p.cleaned + 1 }))).flushInto k w).queueSlot k
    | .purge =>
      if r.state = .shared then (s.setEngine (some (next p.countPurge))).setLine w r.emptied
      else
        match s.freeSlot with
        | none => waiting
        | some k =>
          ((s.setEngine (some (next { p.countPurge with own := p.own.insert k }))).evictInto k w).queueSlot k

/-- The walk's visit is due: it waits for nothing, or what it waits for has come (R138, R139). -/
def Progress.visitDue (p : Progress) : Bool := p.walkWait == .none || p.wake

/-- A first-pass visit at the walk position (R136). -/
def State.firstPassVisit (s : State) (p : Progress) : State :=
  if s.closed p.position then
    s.setEngine (some ({ p with passedOver := p.passedOver ++ [p.position] }).moveOn)
  else s.visitOpen p p.position Progress.moveOn

/-- A revisit of the head of the passed-over list (R139): a way still closed is skipped, or, by a reset purge, waited for. -/
def State.revisit (s : State) (p : Progress) : State :=
  match p.passedOver with
  | [] => s.setEngine (some p.endRevisit)
  | w :: _ =>
    if s.closed w then
      if p.action = .bridgeReset then
        s.setEngine (some { p with position := w, walkWait := .opening, wake := false })
      else s.setEngine (some ({ p with skipped := p.skipped + 1 }).dropHead)
    else s.visitOpen p w Progress.dropHead

end Sys2Proof.Machine
end

