-- ==== Sys2Proof/Machine/Link.lean ====
section
/-! DEFINITION. The downstream link (chapter 7): training, the DOWN event, coming up, and the meanings of the signal, timer,
training, bad-frame and transmission rows. -/

namespace Sys2Proof.Machine

open Sys2Proof (Word LineAddr ByteAddr Granule LineData Frame Arrival)

/-! ## The receiver -/

/-- What comes in on the D-link's receive lanes: nothing while the signal is absent (R150), and a frame whose start was not
received is discarded without a count (R160). DESIGN CHOICE (log entry 31): the receiver has no bound, since R122 gives no number
of packets at which it is full. -/
def DLink.receive (d : DLink) (a : Arrival) : DLink :=
  if d.signal then
    match a with
    | .whole f => { d with rx := d.rx ++ [f], framing := false }
    | .start => { d with framing := true }
    | .finish f => if d.framing then { d with rx := d.rx ++ [f], framing := false } else d
    | .waiting => d
  else d

/-- The oldest frame waiting in the D-link receiver, when it may be taken: not while the state is DOWN, and not while the
egress queue is full (R122, R153). -/
def State.dlinkFront (s : State) : Option Frame :=
  if s.dlink.state ≠ .down ∧ s.room then s.dlink.rx.head? else none

/-- The oldest frame is taken from the D-link receiver. -/
def State.popDLink (s : State) : State := s.setDLink { s.dlink with rx := s.dlink.rx.tail }

/-- The reception of a D-link row: what comes in joins the receiver, and the oldest waiting frame, if it is a packet the row
is about, is taken; packets are taken in the order they arrived (R23, R122). `f` answers a packet of the row with its
effect, and every other with none. -/
def State.takePacket (s : State) (a : Arrival) (f : HomePacket → Option (State → State)) : State :=
  let s := s.setDLink (s.dlink.receive a)
  match (s.dlinkFront.bind homePacket).bind f with
  | some g => g s.popDLink
  | none => s

/-! ## Training -/

/-- The state becomes, or starts again in, TRAINING (R151, R154): a HELLO is formed and the training timer started. -/
def State.startTraining (s : State) : State :=
  (s.setDLink { s.dlink with state := .training, trainingTimer := some Config.trainingMs }).form .hello

/-! ## Losing the link -/

/-- The DOWN event's effect on one tracker entry (R67): WAITING or ISSUED at the event fails with LINK-DOWN. -/
def failsOnDown : Option TrackerEntry → Bool
  | some e => e.phase != .ending
  | none => false

/-- The DOWN event's effect on one slot (R76). A FLUSH hands its marks back to its way and frees; a PUTBACK or RELEASE is
QUEUED again; an ANSWERED slot frees. A PARKED slot has been restored by its owner's failure. -/
def State.downSlot (s : State) (k : Fin 4) : State :=
  match s.slot k with
  | none => s
  | some sl =>
    match sl.state with
    | .answered _ => s.releaseSlot k
    | .parked _ => s
    | _ =>
      match sl.kind with
      | .flush =>
        (s.setLine sl.origin
          { s.line sl.origin with marks := (s.line sl.origin).marks ||| sl.mask, state := .modified }).releaseSlot k
      | _ => s.setSlot k (some { sl with state := .queued })

/-- The DOWN event (R162, R163), the state left at DOWN: every tag FREE, the waiting packets of both directions discarded,
every entry that is WAITING or ISSUED failed in ascending order, every slot dealt with, and DLINK-LOST set. DESIGN CHOICE (log
entry 32): a frame partly received when the event comes by a DLINK-RETRAIN stays in progress, and its end is taken in TRAINING;
a loss of signal discards it (R150). -/
def State.downEvent (s : State) : State :=
  let failing := (List.finRange 12).filter fun n => failsOnDown (s.entry n)
  let s := s.setDLink { s.dlink with state := .down, tags := DLink.reset.tags, rx := [], tx := [] }
  let s := failing.foldl (fun s n => s.failFinal n .linkDown none) s
  let s := (List.finRange 4).foldl State.downSlot s
  s.raise srcDlinkLost

/-! ## Coming up -/

/-- A SLOT-NOT-SENT wait that the sending of its slot has ended leaves the entry at step 4, to ask for a tag in a step of its own:
it shows NO-TAG until then (R164; log entry 15). -/
def State.reachStep4 (s : State) (n : Fin 12) : State :=
  match s.entry n with
  | some e => if s.sentOrFreed n then s.setEntry n (some (e.wait .noTag)) else s
  | none => s

/-- The state becomes UP (R164, R77): the identity recorded, the timer stopped, DLINK-READY set, and every QUEUED slot sent in
slot-number order. The entries those slots held back reach step 4 after this step (log entry 15). -/
def State.linkComesUp (s : State) (identity : BitVec 16) : State :=
  let s := s.setDLink { s.dlink with state := .up, homeId := identity, trainingTimer := none }
  let s := s.raise srcDlinkReady
  (List.finRange 12).foldl State.reachStep4 ((List.finRange 4).foldl State.askTag s)

/-- A HELLO-ACK is taken (R152): in TRAINING it makes the link UP or FAULTED (R165), otherwise it is discarded. -/
def State.takeHelloAck (s : State) (size : BitVec 8) (identity : BitVec 16) : State :=
  match s.dlink.state with
  | .training =>
    if size = Config.lineSize then s.linkComesUp identity
    else (s.setDLink { s.dlink with state := .faulted, trainingTimer := none }).raise srcDlinkFaulted
  | _ => s

/-! ## The meanings -/

/-- HELLO_ACK: a HELLO-ACK is taken (R152, R164, R165). -/
def execHelloAck (a : Arrival) (s : State) : Host.Outcome State Fault Refusal :=
  whileRunning s fun s => s.takePacket a fun p =>
    match p with
    | .helloAck size identity => some fun s => wrapUp s (s.takeHelloAck size identity)
    | _ => none

/-- D_LINK_BAD_FRAME: a frame that fails its CRC, names no known kind or is too short is dropped and counted (R160, R192). -/
def execDLinkBadFrame (a : Arrival) (s : State) : Host.Outcome State Fault Refusal :=
  whileRunning s fun s =>
    let s := s.setDLink (s.dlink.receive a)
    match s.dlinkFront with
    | some f =>
      if (homePacket f).isNone then
        let s := s.popDLink
        s.setDLink { s.dlink with badFrames := satInc s.dlink.badFrames }
      else s
    | none => s

/-- SIGNAL_PRESENT: the signal record becomes present, and from DOWN the link enters TRAINING (R150, R151). -/
def execSignalPresent (s : State) : Host.Outcome State Fault Refusal :=
  whileRunning s fun s =>
    let s1 := s.setDLink { s.dlink with signal := true }
    if s.dlink.state = .down then s1.startTraining else s1

/-- The packets waiting in the receiver and those formed and not sent are discarded, and so is a frame in progress (R150). -/
def DLink.discard (d : DLink) : DLink := { d with signal := false, rx := [], tx := [], framing := false }

/-- SIGNAL_LOST: the signal record becomes absent; TRAINING goes DOWN, UP takes the DOWN event, FAULTED stays (R150, R162). -/
def execSignalLost (s : State) : Host.Outcome State Fault Refusal :=
  whileRunning s fun s =>
    if s.dlink.signal then
      let s1 := s.setDLink s.dlink.discard
      match s.dlink.state with
      | .up => wrapUp s s1.downEvent
      | .training => s1.setDLink { s1.dlink with state := .down, trainingTimer := none }
      | _ => s1
    else s

/-- TRAINING_TIMER_EXPIRY: in TRAINING another HELLO is formed and the timer starts again (R151). -/
def execTrainingTimerExpiry (s : State) : Host.Outcome State Fault Refusal :=
  whileRunning s fun s => if s.dlink.state = .training then s.startTraining else s

/-- STALE_WINDOW_END: a retired tag's stale window ends and the tag becomes FREE (R158). -/
def execStaleWindowEnd (tag : Fin 32) (s : State) : Host.Outcome State Fault Refusal :=
  whileRunning s fun s =>
    match s.tag tag with
    | .retired _ => s.setTag tag .free
    | _ => s

/-- D_LINK_PACKET_SENT: the transmitter sends the oldest formed packet, while the state is TRAINING or UP (R23, section
7.1). -/
def execDLinkPacketSent (s : State) : Host.Outcome State Fault Refusal :=
  whileRunning s fun s =>
    match s.dlink.tx with
    | p :: rest =>
      if s.dlink.state = .up ∨ s.dlink.state = .training then
        s.setDLink { s.dlink with tx := rest, lanes := p.encode }
      else s
    | [] => s

end Sys2Proof.Machine
end

