-- ==== Sys2Proof/Machine/Home.lean ====
section
/-! DEFINITION. Replies from the home (sections 2.3, 3.3, 7.4, 7.5): sorting by tag, fitting, success, failed attempts, and
the meanings of the reply rows and of the response timer's expiry. -/

namespace Sys2Proof.Machine

open Sys2Proof (Word LineAddr ByteAddr Granule LineData Frame Arrival)

/-! ## Fitting (R28) -/

/-- The entry's outstanding attempt is a DIRECT-READ: its kind, or a PURGE-DIRECT for a READ (R27, R59). -/
def TrackerEntry.readsDirect (e : TrackerEntry) : Bool :=
  e.kind == .directRead || (e.kind == .purgeDirect && (e.parked.head?.map (·.isWrite)) == some false)

/-- The entry's outstanding attempt is a DIRECT-WRITE. -/
def TrackerEntry.writesDirect (e : TrackerEntry) : Bool :=
  e.kind == .directWrite || (e.kind == .purgeDirect && (e.parked.head?.map (·.isWrite)) == some true)

/-- A reply fits a tracker entry's attempt (R28, R33): the expected kind, the attempt's line address for DATA-S, DATA-O and
GRANT, and the size asked for in WORD-DATA. -/
def TrackerEntry.fits (e : TrackerEntry) (p : HomePacket) : Bool :=
  match p with
  | .dataS _ l _ => e.kind == .fetchS && l == e.line
  | .dataO _ l _ => (e.kind.isFetch || (e.kind == .upgrade && e.converted)) && l == e.line
  | .grant _ l => e.kind == .upgrade && !e.converted && l == e.line
  | .wordData _ z _ => e.readsDirect && (e.parked.head?.map (·.size.code)) == some z
  | .done _ => e.writesDirect
  | _ => false

/-! ## Success (R61) -/

/-- The install of a fitting reply into the way the entry holds (R12); a direct kind installs nothing. -/
def State.installReply (s : State) (e : TrackerEntry) (p : HomePacket) : State :=
  match e.way, p with
  | some w, .dataS _ _ ws => s.setLine w ((s.line w).install e.line .shared ws)
  | some w, .dataO _ _ ws => s.setLine w ((s.line w).install e.line .owned ws)
  | some w, .grant _ _ => s.setLine w ((s.line w).install e.line .owned (s.line w).data)
  | _, _ => s

/-- What a fitting reply answers the entry's first parked request with (R61): only a direct kind's reply answers it. -/
def TrackerEntry.answerOf (e : TrackerEntry) (p : HomePacket) : Answer :=
  match p, e.parked with
  | .wordData _ _ ws, r :: _ => .wordData (laneWords ws r.addr r.size)
  | .done _, _ => .done
  | _, _ => .none

/-- A PARKED victim slot turns QUEUED as its owner's fill succeeds (R61, R70). -/
def State.releaseVictim (s : State) (k : Fin 4) : State :=
  match s.slot k with
  | some sl =>
    match sl.state with
    | .parked _ => (s.setSlot k (some { sl with state := .queued })).queueSlot k
    | _ => s
  | none => s

/-- A fitting reply ends the entry's work successfully (R61): install, the victim slot QUEUED and sent, ENDING. -/
def State.succeed (s : State) (n : Fin 12) (p : HomePacket) : State :=
  match s.entry n with
  | none => s
  | some e =>
    let s := (s.installReply e p).setEntry n
      (some { e with phase := .ending, victim := none, answer := e.answerOf p })
    match e.victim with
    | some k => s.releaseVictim k
    | none => s

/-! ## The owner's side of a reply -/

/-- A reply other than REFUSED and ERROR reaches the tracker entry whose attempt holds its tag (R29, R34, R60, R61). -/
def State.entryReply (s : State) (n : Fin 12) (t : Fin 32) (p : HomePacket) : State :=
  match s.entry n with
  | none => s
  | some e =>
    if e.fits p then s.succeed n p
    else (s.log (attemptFault .replyMismatch e.line t none e.attempts)).failAttempt n

/-- A slot's attempt ends without success (R35, R72): a SENDING slot is QUEUED and asks again, an ANSWERED slot frees. -/
def State.failSlotAttempt (s : State) (k : Fin 4) : State :=
  match s.slot k with
  | none => s
  | some sl =>
    match sl.state with
    | .sending _ => s.requeueSlot k
    | .answered _ => s.releaseSlot k
    | _ => s

/-- A reply other than REFUSED and ERROR reaches the slot whose attempt holds its tag: DONE frees it, any other is a mismatch
(R30, R34, R35, R72). -/
def State.slotReply (s : State) (k : Fin 4) (t : Fin 32) (p : HomePacket) : State :=
  match s.slot k with
  | none => s
  | some sl =>
    match p with
    | .done _ => s.releaseSlot k
    | _ => (s.log (attemptFault .replyMismatch sl.line t none sl.attempts)).failSlotAttempt k

/-- An ERROR reaches its slot (R32, R35): a HOME-ERROR fault entry, and the attempt has failed. -/
def State.slotError (s : State) (k : Fin 4) (t : Fin 32) (reason : HomeReason) : State :=
  match s.slot k with
  | none => s
  | some sl => (s.log (attemptFault .homeError sl.line t (some reason) sl.attempts)).failSlotAttempt k

/-- A stale reply is counted (R153, R156, R161). -/
def State.countStale (s : State) : State :=
  s.setDLink { s.dlink with staleReplies := satInc s.dlink.staleReplies }

/-- A reply for a FREE tag is counted and logged (R156, R161). -/
def State.countUnknown (s : State) (f : FaultEntry) : State :=
  (s.setDLink { s.dlink with unknownTags := satInc s.dlink.unknownTags }).log f

/-- The reception of a reply packet (R156, R153): while UP it is sorted by its tag's state, an IN-USE tag becoming FREE and
the owner acting on the reply; while TRAINING or FAULTED it is stale. -/
def State.sortReply (s : State) (t : Fin 32) (unknown : FaultEntry) (act : Owner → State → State) : State :=
  if s.linkUp then
    match s.tag t with
    | .inUse o _ => wrapUp s (act o (s.setTag t .free))
    | .retired _ => s.countStale
    | .free => announce s (s.countUnknown unknown)
  else s.countStale

/-- The owner of a tag acts on a data reply, GRANT, WORD-DATA or DONE. -/
def State.actReply (t : Fin 32) (p : HomePacket) (o : Owner) (s : State) : State :=
  match o with
  | .entry n => s.entryReply n t p
  | .slot k => s.slotReply k t p

/-- The owner of a tag acts on a REFUSED or on the expiry of its attempt's timer (R31, R60, R72, R73, R157). -/
def State.actFailed (o : Owner) (s : State) : State :=
  match o with
  | .entry n => s.failAttempt n
  | .slot k => s.failSlotAttempt k

/-- The owner of a tag acts on an ERROR (R32, R35). -/
def State.actError (t : Fin 32) (reason : HomeReason) (o : Owner) (s : State) : State :=
  match o with
  | .entry n => s.failFinal n .failed (some reason)
  | .slot k => s.slotError k t reason

/-! ## The meanings -/

/-- DATA_S: a DATA-S reply is taken (R29, R28, R34, R156). -/
def execDataS (a : Arrival) (s : State) : Host.Outcome State Fault Refusal :=
  whileRunning s fun s => s.takePacket a fun p =>
    match p with
    | .dataS t l ws => some fun s => s.sortReply t (unknownTagFault t (some l) none) (State.actReply t (.dataS t l ws))
    | _ => none

/-- DATA_O: a DATA-O reply is taken (R29, R28, R34, R156). -/
def execDataO (a : Arrival) (s : State) : Host.Outcome State Fault Refusal :=
  whileRunning s fun s => s.takePacket a fun p =>
    match p with
    | .dataO t l ws => some fun s => s.sortReply t (unknownTagFault t (some l) none) (State.actReply t (.dataO t l ws))
    | _ => none

/-- GRANT: a GRANT reply is taken (R29, R28, R34, R36, R156). -/
def execGrant (a : Arrival) (s : State) : Host.Outcome State Fault Refusal :=
  whileRunning s fun s => s.takePacket a fun p =>
    match p with
    | .grant t l => some fun s => s.sortReply t (unknownTagFault t (some l) none) (State.actReply t (.grant t l))
    | _ => none

/-- WORD_DATA: a WORD-DATA reply is taken (R29, R28, R34, R156). -/
def execWordData (a : Arrival) (s : State) : Host.Outcome State Fault Refusal :=
  whileRunning s fun s => s.takePacket a fun p =>
    match p with
    | .wordData t z ws => some fun s => s.sortReply t (unknownTagFault t none none) (State.actReply t (.wordData t z ws))
    | _ => none

/-- DONE: a DONE reply is taken (R30, R28, R34, R35, R156). -/
def execDone (a : Arrival) (s : State) : Host.Outcome State Fault Refusal :=
  whileRunning s fun s => s.takePacket a fun p =>
    match p with
    | .done t => some fun s => s.sortReply t (unknownTagFault t none none) (State.actReply t (.done t))
    | _ => none

/-- REFUSED: a REFUSED reply is taken and the attempt has failed (R31, R35, R156). -/
def execRefused (a : Arrival) (s : State) : Host.Outcome State Fault Refusal :=
  whileRunning s fun s => s.takePacket a fun p =>
    match p with
    | .refused t => some fun s => s.sortReply t (unknownTagFault t none none) State.actFailed
    | _ => none

/-- ERROR: an ERROR reply is taken (R32, R35, R156). -/
def execError (a : Arrival) (s : State) : Host.Outcome State Fault Refusal :=
  whileRunning s fun s => s.takePacket a fun p =>
    match p with
    | .error t reason => some fun s => s.sortReply t (unknownTagFault t none (some reason)) (State.actError t reason)
    | _ => none

/-- RESPONSE_TIMER_EXPIRY: an IN-USE tag's timer expires (R157, R158, R60, R72, R73): the tag is retired for four periods of
the timeout then set, the expiry is counted, and the owner's attempt has ended. DESIGN CHOICE (log entry 29): a packet of the
attempt that has not yet left stays in the transmitter and is sent. -/
def execResponseTimerExpiry (tag : Fin 32) (s : State) : Host.Outcome State Fault Refusal :=
  whileRunning s fun s =>
    match s.tag tag with
    | .inUse o _ =>
      let s1 := s.setTag tag (.retired (Config.stalePeriods * s.dlink.timeout.toNat))
      let s1 := s1.setDLink { s1.dlink with timeouts := satInc s1.dlink.timeouts }
      wrapUp s (State.actFailed o s1)
    | _ => s

end Sys2Proof.Machine
end

