-- ==== Sys2Proof/Machine/Admission.lean ====
section
/-! DEFINITION. Selection and admission (sections 5.3 to 5.5, 5.8; R84 to R86): the arbiter, the checks, the window lookup,
the effective policy and the dispatch, and the meanings of READ, WRITE, RESETTING_REFUSAL and MALFORMED_REFUSAL. -/

namespace Sys2Proof.Machine

open Sys2Proof (Word LineAddr ByteAddr Granule LineData Frame)

/-! ## The arbiter -/

/-- A stream's head is eligible (R107): outstanding below depth, none outstanding under BYPASS-ORDERED, mark clear. -/
def StreamRecord.eligible (r : StreamRecord) : Bool :=
  r.outstanding.length < r.depth.toNat && (r.policy != .bypassOrdered || r.outstanding.isEmpty) && r.blocked == .clear

/-- The streams in the order a selection examines them (R109): from the round-robin pointer upward, wrapping. -/
def State.searchOrder (s : State) : List (Fin 16) := (List.finRange 16).map fun i => s.arbiter + i

/-- The first stream in search order whose queue is not empty and whose record satisfies `ok`, with its head. -/
def State.firstHead (s : State) (ok : StreamRecord → Bool) : Option (Fin 16 × QueuedFrame) :=
  s.searchOrder.findSome? fun st =>
    match (s.stream st).queue with
    | q :: _ => if ok (s.stream st) then some (st, q) else none
    | [] => none

/-- The head the arbiter selects for admission (R107, R109, R121): none while the egress queue is full or a bridge reset
answers RESETTING. -/
def State.selected (s : State) : Option (Fin 16 × QueuedFrame) :=
  if s.room ∧ s.resetting = false then s.firstHead StreamRecord.eligible else none

/-- The head the arbiter refuses RESETTING (R123): every stream whose queue is not empty is eligible. -/
def State.selectedForRefusal (s : State) : Option (Fin 16 × QueuedFrame) :=
  if s.room ∧ s.resetting then s.firstHead fun _ => true else none

/-- The arbiter takes the head of stream `st` (R103, R106): it leaves the queue and the pointer moves past the stream. -/
def State.take (s : State) (st : Fin 16) : State :=
  let r := s.stream st
  (s.setStream st { r with queue := r.queue.tail }).setArbiter (st + 1)

/-- A head is refused at admission (R110): taken, and answered at once. -/
def State.refuse (s : State) (st : Fin 16) (q : QueuedFrame) (status : Status) : State :=
  (s.take st).place (.completion st q.tag status [])

/-- A head is left at the head (R108, R110): nothing but its stream's blocked mark is set. -/
def State.leave (s : State) (st : Fin 16) (b : Blocked) : State :=
  s.setStream st { s.stream st with blocked := b }

/-- A request becomes outstanding (R113). -/
def State.addOutstanding (s : State) (st : Fin 16) (tag : Fin 64) : State :=
  let r := s.stream st
  s.setStream st { r with outstanding := r.outstanding ++ [tag] }

/-- The first four checks (R111), the first failure naming the status: stream state, form, tag, management right. -/
def State.commonCheck (s : State) (st : Fin 16) (q : QueuedFrame) : Option Status :=
  let r := s.stream st
  if r.isOpen = false then some .streamClosed
  else if q.formOk = false then some .malformed
  else if q.tag ∈ r.outstanding then some .duplicateTag
  else if q.isMgmt ∧ r.manage = false then some .denied
  else none

/-- The step of a row about a head request: it is taken when the head the arbiter selects is one of the row's. -/
def State.admitting (s : State) (row : HeadRow) (f : Fin 16 → QueuedFrame → State → State) : State :=
  match s.selected with
  | some (st, q) => if q.row = row then f st q s else s
  | none => s

/-! ## READ and WRITE -/

/-- A policy and a window's ceiling combined (the table of R86). -/
def combine : Policy → Ceiling → Policy
  | .bypassOrdered, _ => .bypassOrdered
  | .bypass, _ => .bypass
  | _, .bypass => .bypass
  | .writeThrough, _ => .writeThrough
  | .writeBack, .writeThrough => .writeThrough
  | .writeBack, .writeBack => .writeBack

/-- The effective policy (R86): with the LINE-STORE control OFF the caching policies become BYPASS. -/
def effectivePolicy (p : Policy) (c : Ceiling) (lineStoreOn : Bool) : Policy :=
  match combine p c, lineStoreOn with
  | .writeBack, false => .bypass
  | .writeThrough, false => .bypass
  | r, _ => r

/-- The window check (R85): the status and the fault entry kind of the first failure. -/
def windowCheck (win : Option WindowRecord) (isWrite : Bool) : Option (Status × FaultKind) :=
  match win with
  | none => some (.noWindow, .noWindow)
  | some r =>
    match r.kind with
    | .deny => some (.denied, .deniedWindow)
    | .far => if r.isProtected ∧ isWrite then some (.isProtected, .protectViolation) else none

/-- A request is parked on entry `n` (R52), or left at the head while the entry's list is full (R114). -/
def State.park (s : State) (st : Fin 16) (n : Fin 12) (r : Request) : State :=
  match s.entry n with
  | none => s
  | some e =>
    if e.parked.length < Config.parkCap then
      ((s.take st).addOutstanding st r.tag).setEntry n (some { e with parked := e.parked ++ [r] })
    else s.leave st (.entryFull e.line)

/-- A READ or WRITE that has passed checks 1 to 5 (R112, R114, R115): parked, a hit, LINK-DOWN, a new entry, or left at the
head for want of one. -/
def State.dispatchAccess (s : State) (st : Fin 16) (q : QueuedFrame) (r : Request) : State :=
  match s.entryNaming r.line with
  | some n => s.park st n r
  | none =>
    match s.work r with
    | none => ((s.take st).hit r).place (.completion st r.tag .ok (s.hitWords r))
    | some k =>
      if s.linkUp = false then s.refuse st q .linkDown
      else
        match s.freeEntry with
        | some n => ((s.take st).addOutstanding st r.tag).createEntry n k r
        | none => s.leave st .noEntry

/-- Admission of a READ or WRITE head (R111, R112, R85, R86). -/
def State.admitAccess (st : Fin 16) (q : QueuedFrame) (s : State) : State :=
  match s.commonCheck st q with
  | some status => s.refuse st q status
  | none =>
    let win := s.windows.covering (granuleOfAddr q.addr)
    match windowCheck win (q.kind == 2) with
    | some (status, kind) =>
      announce s ((s.refuse st q status).log (accessFault kind st q.tag (lineOfAddr q.addr)))
    | none =>
      let ceiling := (win.map (·.ceiling)).getD .bypass
      s.dispatchAccess st q
        (q.toRequest st (effectivePolicy (s.stream st).policy ceiling s.lineStoreOn))

/-- READ: the selected READ head is admitted (R14, R109 to R115). -/
def execRead (s : State) : Host.Outcome State Fault Refusal :=
  whileRunning s fun s => s.admitting .read State.admitAccess

/-- WRITE: the selected WRITE head is admitted (R15, R16, R109 to R115). -/
def execWrite (s : State) : Host.Outcome State Fault Refusal :=
  whileRunning s fun s => s.admitting .write State.admitAccess

/-- RESETTING_REFUSAL: during a bridge reset a queued head is refused without admission checks (R123, R143). -/
def execResettingRefusal (s : State) : Host.Outcome State Fault Refusal :=
  whileRunning s fun s =>
    match s.selectedForRefusal with
    | some (st, q) => (s.refuse st q .resetting).advance
    | none => s

/-- Admission of a head that names no request kind, unit, index or action: check 1 or check 2 refuses it (R111, R167). -/
def State.refuseMalformed (st : Fin 16) (q : QueuedFrame) (s : State) : State :=
  match s.commonCheck st q with
  | some status => s.refuse st q status
  | none => s.refuse st q .malformed

/-- MALFORMED_REFUSAL: the selected head names no request kind, or no existing unit, index or action (R111, R167). -/
def execMalformedRefusal (s : State) : Host.Outcome State Fault Refusal :=
  whileRunning s fun s => s.admitting .malformedRefusal State.refuseMalformed

end Sys2Proof.Machine
end

