-- ==== Sys2Proof/Machine/Views.lean ====
section
/-! DEFINITION. The value word of every readable index (chapter 8, laid out in section 10.4). -/

namespace Sys2Proof.Machine

open Sys2Proof (Word LineAddr ByteAddr Granule LineData Frame)

/-- The code of a policy in a stream record word. -/
def Policy.code : Policy → Nat
  | .writeBack => 0
  | .writeThrough => 1
  | .bypass => 2
  | .bypassOrdered => 3

/-- The code of a window kind. -/
def WindowKind.code : WindowKind → Nat
  | .far => 0
  | .deny => 1

/-- The code of a ceiling. -/
def Ceiling.code : Ceiling → Nat
  | .writeBack => 0
  | .writeThrough => 1
  | .bypass => 2

/-- The stream record word (R173). -/
def StreamRecord.word (r : StreamRecord) : Word :=
  put 0 (bit r.isOpen) + put 1 (bit r.manage) + put 2 r.policy.code + put 8 r.depth.toNat +
    put 16 r.outstanding.length + put 24 r.queue.length

/-- The range word of a window record (R173). -/
def WindowRecord.rangeWord (r : WindowRecord) : Word :=
  put 0 (bit r.inUse) + put 4 r.start.toNat + put 32 r.last.toNat

/-- The attribute word of a window record (R173). -/
def WindowRecord.attributeWord (r : WindowRecord) : Word :=
  put 0 r.kind.code + put 4 r.ceiling.code + put 8 (bit r.isProtected)

/-- Active record `k` as management reads it (R82): one past the last reads as not in use with its other fields zero. -/
def WindowTable.activeView (t : WindowTable) (k : Nat) : WindowRecord := t.active.getD k WindowRecord.reset

/-- Staging record `k`. -/
def WindowTable.stagingView (t : WindowTable) (k : Nat) : WindowRecord := t.staging.toList.getD k WindowRecord.reset

/-- A notice source's word (R174). -/
def NoticeSource.word (n : NoticeSource) : Word :=
  put 0 (bit n.status) + put 1 (bit n.enable) + put 4 n.target.val

/-- The code of a fault kind (section 10.4). -/
def FaultKind.code : FaultKind → Nat
  | .noWindow => 1
  | .deniedWindow => 2
  | .protectViolation => 3
  | .fetchFailed => 4
  | .linkDownFail => 5
  | .replyMismatch => 6
  | .homeError => 7
  | .unknownTag => 8
  | .writebackStalled => 9
  | .dataDiscarded => 10

/-- The first word of a fault entry (FAULTS 1): an absent field and its presence mark read as zero. -/
def FaultEntry.firstWord (f : FaultEntry) : Word :=
  put 0 f.kind.code + put 8 (bit f.stream.isSome) + put 9 (bit f.requestTag.isSome) + put 10 (bit f.line.isSome) +
    put 11 (bit f.dTag.isSome) + put 12 (bit f.reason.isSome) + put 13 (bit f.attempts.isSome) +
    put 16 ((f.stream.map (·.val)).getD 0) + put 24 ((f.requestTag.map (·.val)).getD 0) +
    put 32 ((f.dTag.map (·.val)).getD 0) + put 40 ((f.reason.map (·.code)).getD 0) + put 48 (f.attempts.getD 0)

/-- The second word of a fault entry (FAULTS 2). -/
def FaultEntry.secondWord (f : FaultEntry) : Word := put 0 ((f.line.map (·.toNat)).getD 0)

/-- The probe word of a line record (R175). -/
def LineRecord.word (r : LineRecord) : Word :=
  put 0 r.tag.toNat + put 28 r.state.code + put 32 r.marks.toNat +
    match r.holder with
    | .none => 0
    | .entry n => put 40 1 + put 44 n.val
    | .slot k => put 40 2 + put 44 k.val

/-- The code of an entry kind (section 10.4). -/
def EntryKind.code : EntryKind → Nat
  | .fetchS => 1
  | .fetchO => 2
  | .upgrade => 3
  | .directRead => 4
  | .directWrite => 5
  | .purgeDirect => 6

/-- The code of a waiting reason (section 10.4). -/
def Reason.code : Reason → Nat
  | .lineInSlot => 1
  | .noWay => 2
  | .noSlot => 3
  | .noTag => 4
  | .slotNotSent => 5

/-- The phase and reason fields of an entry view: bits 5:4 and 10:8. -/
def EntryPhase.fields : EntryPhase → Word
  | .waiting why => put 4 1 + put 8 why.code
  | .issued _ => put 4 2
  | .ending => put 4 3

/-- A D-link tag field of a second word: present mark in bit 20, tag in 28:24. -/
def tagFields : Option (Fin 32) → Word
  | some t => put 20 1 + put 24 t.val
  | none => 0

/-- The D-link tag of an entry: present in ISSUED. -/
def EntryPhase.tag? : EntryPhase → Option (Fin 32)
  | .issued t => some t
  | _ => none

/-- The first word of a tracker entry view (R176). -/
def entryFirstWord : Option TrackerEntry → Word
  | none => 0
  | some e => put 0 1 + put 1 e.kind.code + e.phase.fields + put 12 e.attempts + put 16 (bit e.converted) +
      put 20 e.parked.length + put 30 e.line.toNat

/-- The second word of a tracker entry view (R176). -/
def entrySecondWord : Option TrackerEntry → Word
  | none => 0
  | some e =>
    (match e.way with
      | some w => put 0 1 + put 2 w.way.val + put 8 w.set.val
      | none => 0) +
    (match e.victim with
      | some k => put 16 1 + put 18 k.val
      | none => 0) +
    tagFields e.phase.tag? + put 32 e.epoch.toNat

/-- The code of a slot state (section 10.4). -/
def SlotState.code : SlotState → Nat
  | .parked _ => 1
  | .queued => 2
  | .sending _ => 3
  | .answered _ => 4

/-- The code of a slot kind (section 10.4). -/
def SlotKind.code : SlotKind → Nat
  | .putback => 1
  | .release => 2
  | .flush => 3

/-- The first word of a slot view (R176). -/
def slotFirstWord : Option EvictionSlot → Word
  | none => 0
  | some sl => put 0 sl.state.code + put 4 sl.kind.code + put 6 (bit sl.stallReported) + put 8 sl.attempts +
      put 30 sl.line.toNat

/-- The second word of a slot view (R176). -/
def slotSecondWord : Option EvictionSlot → Word
  | none => 0
  | some sl =>
    put 0 sl.origin.way.val + put 2 sl.origin.set.val + put 9 (bit (sl.originState == .modified)) +
    (match sl.state with
      | .parked n => put 12 1 + put 16 n.val
      | _ => 0) +
    tagFields sl.state.tag? + put 32 sl.mask.toNat

/-- The code of an action in the engine view (section 10.4). -/
def Action.code : Action → Nat
  | .lineClean => 1
  | .linePurge => 2
  | .lineDrop => 3
  | .storeClean => 4
  | .storePurge => 5
  | .commit => 6
  | .bridgeReset => 7

/-- A line action, of the seven. -/
def Action.isLine : Action → Bool
  | .lineClean => true
  | .linePurge => true
  | .lineDrop => true
  | _ => false

/-- The code of a phase in the engine view (section 10.4); 11 CLEAR is never seen (R147). -/
def EnginePhase.code : EnginePhase → Nat
  | .waitLine => 1
  | .waitSlot => 2
  | .waitFree => 3
  | .finishing => 4
  | .firstPass => 5
  | .revisit => 6
  | .drain => 7
  | .refusing => 8
  | .purgeFirstPass => 9
  | .purgeRevisit => 9
  | .settle => 10

/-- The walk position fields of the engine view: the position of a walk that visits ways in its first pass or waits at a way,
set 0 way 0 before the walk begins, and a free value past the first pass (R172; log entry 8). -/
def Progress.positionFields (p : Progress) : Word :=
  if p.phase = .firstPass ∨ p.phase = .drain ∨ p.walkWait ≠ .none then
    put 32 p.position.set.val + put 40 p.position.way.val
  else
    let v := Config.pastWalkPosition (BitVec.ofNat 4 p.phase.code) p.position.set p.position.way
    put 32 v.1.toNat + put 40 v.2.toNat

/-- The engine view (R172). -/
def engineWord : Option Progress → Word
  | none => 0
  | some p =>
    put 0 p.action.code + put 4 p.phase.code + put 8 p.stream.val + put 12 p.tag.val +
      ((List.finRange 4).map fun k => put (20 + k.val) (bit (p.own.contains k))).sum +
      if p.action.isLine then put 30 p.line.toNat
      else p.positionFields + put 48 p.passedOver.length

/-- The code of a link state (section 10.4). -/
def LinkState.code : LinkState → Nat
  | .down => 0
  | .training => 1
  | .up => 2
  | .faulted => 3

/-- GLOBAL 0: the identity (R171). -/
def identityWord : Word :=
  put 0 Config.vendorCode.toNat + put 16 Config.partCode.toNat + put 32 Config.revision.toNat

/-- GLOBAL 1: the capacities (R171). -/
def capacityWord : Word :=
  put 0 64 + put 8 128 + put 16 4 + put 19 12 + put 24 4 + put 27 32 + put 33 24 + put 38 16 + put 43 32 +
    put 49 64 + put 56 8

/-- The value words of unit 0, GLOBAL (R171, R172). -/
def State.globalWord (s : State) (index : Nat) : Word :=
  match index with
  | 0 => identityWord
  | 1 => capacityWord
  | 2 => put 0 (bit s.lineStoreOn)
  | 3 => put 0 s.ulink.badFrames.toNat
  | _ => engineWord s.engine

/-- The value words of unit 2, WINDOWS (R173). -/
def WindowTable.value (t : WindowTable) (index : Nat) : Word :=
  if index ≤ 23 then (t.stagingView index).rangeWord
  else if index ≤ 55 then (t.stagingView (index - 32)).attributeWord
  else if index ≤ 279 then (t.activeView (index - 256)).rangeWord
  else if index ≤ 311 then (t.activeView (index - 288)).attributeWord
  else put 0 t.epoch.toNat

/-- The value words of unit 4, FAULTS (R174, R182). -/
def FaultRecord.value (r : FaultRecord) (index : Nat) : Word :=
  match index with
  | 0 => put 0 r.entries.length + put 8 r.overflow.toNat
  | 1 => (r.entries.head?.map (·.firstWord)).getD 0
  | _ => (r.entries.head?.map (·.secondWord)).getD 0

/-- The value words of unit 5, STORE (R175, R176). -/
def State.storeWord (s : State) (index : Nat) : Word :=
  if index ≤ 511 then (s.line ⟨Fin.ofNat 128 (index / 4), Fin.ofNat 4 index⟩).word
  else if index ≤ 1035 then entryFirstWord (s.entry (Fin.ofNat 12 (index - 1024)))
  else if index ≤ 1043 then slotFirstWord (s.slot (Fin.ofNat 4 (index - 1040)))
  else if index ≤ 1099 then entrySecondWord (s.entry (Fin.ofNat 12 (index - 1088)))
  else slotSecondWord (s.slot (Fin.ofNat 4 (index - 1104)))

/-- The value words of unit 6, DLINK (R177). -/
def DLink.value (d : DLink) (index : Nat) : Word :=
  match index with
  | 0 => put 0 d.state.code + put 4 (bit d.signal) + put 16 d.homeId.toNat
  | 1 => put 0 d.timeout.toNat
  | 2 => put 0 d.retryLimit.toNat
  | 3 => put 0 d.badFrames.toNat
  | 4 => put 0 d.staleReplies.toNat
  | 5 => put 0 d.unknownTags.toNat
  | _ => put 0 d.timeouts.toNat

/-- The value word a MGMT-READ of an existing unit and index returns (R168, R171 to R177). -/
def State.mgmtValue (s : State) (unit index : Nat) : Word :=
  match unit with
  | 0 => s.globalWord index
  | 1 => (s.stream (Fin.ofNat 16 index)).word
  | 2 => s.windows.value index
  | 3 => (s.notice (Fin.ofNat 6 index)).word
  | 4 => s.faults.value index
  | 5 => s.storeWord index
  | _ => s.dlink.value index

end Sys2Proof.Machine
end

