-- ==== Sys2Proof/Machine/Management.lean ====
section
/-! DEFINITION. Management reads, writes and the actions that do not use the engine (chapters 4, 5, 7, 8, 9). -/

namespace Sys2Proof.Machine

open Sys2Proof (Word LineAddr ByteAddr Granule LineData Frame)

/-! ## Admission of management requests (R116) -/

/-- A management request of a row: refused by one of the checks of R111, or taken from its queue and handed to the management
unit in the step of its admission (R116). -/
def State.admitMgmt (s : State) (row : HeadRow) (f : Fin 16 → QueuedFrame → State → State) : State :=
  s.admitting row fun st q s =>
    match s.commonCheck st q with
    | some status => s.refuse st q status
    | none => f st q (s.take st)

/-- A management request completed in the step of its admission: the outstanding count rises and falls within the step
(R113, R116). -/
def State.answer (s : State) (st : Fin 16) (q : QueuedFrame) (status : Status) (words : List Word) : State :=
  s.place (.completion st q.tag status words)

/-- MGMT_READ: the value its unit and index reach as it stands in the step, the read itself not counted (R168, R100). -/
def execMgmtRead (s : State) : Host.Outcome State Fault Refusal :=
  whileRunning s fun s => s.admitMgmt .mgmtRead fun st q s => s.answer st q .ok [s.mgmtValue q.unit q.index]

/-! ## Writes (R169) -/

/-- The policy an encoding names (section 10.4). -/
def Policy.ofCode : Nat → Option Policy
  | 0 => some .writeBack
  | 1 => some .writeThrough
  | 2 => some .bypass
  | 3 => some .bypassOrdered
  | _ => none

/-- A stream record with a written word's fields, or nothing where one is out of range (R101, section 10.4). -/
def writtenStream (st : Fin 16) (r : StreamRecord) (w : Word) : Option StreamRecord :=
  let depth : BitVec 5 := field w 8 5
  match Policy.ofCode (bits w 2 3) with
  | none => none
  | some policy =>
    if depth = 0 ∨ 16 < depth.toNat then none
    else if st = 0 ∧ (flag w 0 = false ∨ flag w 1 = false) then none
    else some { r with isOpen := flag w 0, manage := flag w 1, policy := policy, depth := depth }

/-- STREAM_RECORD_WRITE: state, policy, depth and MANAGE are replaced together (R101, R102). -/
def execStreamRecordWrite (s : State) : Host.Outcome State Fault Refusal :=
  whileRunning s fun s => s.admitMgmt .streamRecordWrite fun st q s =>
    let target := Fin.ofNat 16 q.index
    match writtenStream target (s.stream target) q.value with
    | some r => (s.setStream target r).answer st q .ok []
    | none => s.answer st q .invalidValue []

/-- The window kind an encoding names. -/
def WindowKind.ofCode : Nat → Option WindowKind
  | 0 => some .far
  | 1 => some .deny
  | _ => none

/-- The ceiling an encoding names. -/
def Ceiling.ofCode : Nat → Option Ceiling
  | 0 => some .writeBack
  | 1 => some .writeThrough
  | 2 => some .bypass
  | _ => none

/-- A staging record with a range word's fields (R81, R173): no value is refused. -/
def WindowRecord.withRange (r : WindowRecord) (w : Word) : WindowRecord :=
  { r with inUse := flag w 0, start := field w 4 28, last := field w 32 28 }

/-- A staging record with an attribute word's fields, or nothing where the kind or ceiling is out of range (R81, R173). -/
def WindowRecord.withAttributes (r : WindowRecord) (w : Word) : Option WindowRecord :=
  match WindowKind.ofCode (bits w 0 2), Ceiling.ofCode (bits w 4 2) with
  | some kind, some ceiling => some { r with kind := kind, ceiling := ceiling, isProtected := flag w 8 }
  | _, _ => none

/-- Staging record `k` replaced. -/
def State.setStaging (s : State) (k : Fin 24) (r : WindowRecord) : State :=
  s.setWindows { s.windows with staging := s.windows.staging.set k r }

/-- STAGING_WINDOW_WRITE: one word of a staging record replaces its fields (R81, R173). -/
def execStagingWindowWrite (s : State) : Host.Outcome State Fault Refusal :=
  whileRunning s fun s => s.admitMgmt .stagingWindowWrite fun st q s =>
    if q.index ≤ 23 then
      let k := Fin.ofNat 24 q.index
      (s.setStaging k (s.windows.staging[k].withRange q.value)).answer st q .ok []
    else
      let k := Fin.ofNat 24 (q.index - 32)
      match s.windows.staging[k].withAttributes q.value with
      | some r => (s.setStaging k r).answer st q .ok []
      | none => s.answer st q .invalidValue []

/-- LINE_STORE_CONTROL_WRITE: the LINE-STORE control is set ON or OFF for later admissions (R87, R171). -/
def execLineStoreControlWrite (s : State) : Host.Outcome State Fault Refusal :=
  whileRunning s fun s => s.admitMgmt .lineStoreControlWrite fun st q s =>
    State.answer { s with lineStoreOn := flag q.value 0 } st q .ok []

/-- A notice source with a written enable and target (R186): turning the enable on makes a NOTICE due when the status is set
and the mark NONE, turning it off withdraws a PENDING one. -/
def NoticeSource.written (n : NoticeSource) (enable : Bool) (target : Fin 16) : NoticeSource :=
  let mark :=
    match n.enable, enable, n.mark with
    | false, true, .none => if n.status then NoticeMark.pending else .none
    | true, false, .pending => .none
    | _, _, m => m
  { n with enable := enable, target := target, mark := mark }

/-- NOTICE_SOURCE_WRITE: enable and target stream are replaced together (R186, R174); a NOTICE made due is placed behind the
write's own completion (R188). -/
def execNoticeSourceWrite (s : State) : Host.Outcome State Fault Refusal :=
  whileRunning s fun s => s.admitMgmt .noticeSourceWrite fun st q s =>
    let k := Fin.ofNat 6 q.index
    announce s
      ((s.setNotice k ((s.notice k).written (flag q.value 1) (field q.value 4 4).toFin)).answer st q .ok [])

/-- MGMT_WRITE: the D-link response timeout (index 1) or retry limit (index 2) is replaced, a value out of range refused
(R159, R169, R177). -/
def execMgmtWrite (s : State) : Host.Outcome State Fault Refusal :=
  whileRunning s fun s => s.admitMgmt .mgmtWrite fun st q s =>
    if q.index = 1 then
      let v : BitVec 8 := field q.value 0 8
      if v = 0 then s.answer st q .invalidValue []
      else (s.setDLink { s.dlink with timeout := v }).answer st q .ok []
    else
      let v : BitVec 4 := field q.value 0 4
      if 7 < v.toNat then s.answer st q .invalidValue []
      else (s.setDLink { s.dlink with retryLimit := v }).answer st q .ok []

/-! ## Actions without the engine (R170) -/

/-- The staging copy after a STAGING-RELOAD (R98): the active records with in-use yes, the rest at their reset values. -/
def WindowTable.reloaded (t : WindowTable) : Vector WindowRecord 24 :=
  Vector.ofFn fun k => t.activeView k.val

/-- STAGING_RELOAD: the active copy is copied into the staging copy (R98). -/
def execStagingReload (s : State) : Host.Outcome State Fault Refusal :=
  whileRunning s fun s => s.admitMgmt .stagingReload fun st q s =>
    (s.setWindows { s.windows with staging := s.windows.reloaded }).answer st q .ok []

/-- A source cleared (R187): status clear, mark NONE. -/
def NoticeSource.cleared (n : NoticeSource) : NoticeSource := { n with status := false, mark := .none }

/-- Every source the mask names is cleared (R187). -/
def State.clearNotices (s : State) (mask : Word) : State :=
  { s with notices := Vector.ofFn fun k => if flag mask k.val then (s.notice k).cleared else s.notice k }

/-- NOTICE_CLEAR: the status and notice mark of each source the mask names are cleared; a bit above source 5 is refused
(R187, R170). -/
def execNoticeClear (s : State) : Host.Outcome State Fault Refusal :=
  whileRunning s fun s => s.admitMgmt .noticeClear fun st q s =>
    if bits q.argument 6 58 ≠ 0 then s.answer st q .invalidValue []
    else (s.clearNotices q.argument).answer st q .ok []

/-- FAULT_TAKE: the oldest fault entry is removed; the completion says taken or empty and the entries held (R182). -/
def execFaultTake (s : State) : Host.Outcome State Fault Refusal :=
  whileRunning s fun s => s.admitMgmt .faultTake fun st q s =>
    match s.faults.entries with
    | [] => s.answer st q .ok [0]
    | _ :: rest =>
      (s.setFaults { s.faults with entries := rest }).answer st q .ok [put 0 1 + put 8 rest.length]

/-- The effect of a DLINK-RETRAIN by the state it finds (R154). -/
def State.retrain (s : State) : State :=
  match s.dlink.state with
  | .up => s.downEvent.startTraining
  | .training => s.startTraining
  | .faulted =>
    if s.dlink.signal then s.startTraining
    else s.setDLink { s.dlink with state := .down, trainingTimer := none }
  | .down => s

/-- The link state a DLINK-RETRAIN enters (R154). -/
def DLink.retrained (d : DLink) : LinkState :=
  match d.state with
  | .up => .training
  | .training => .training
  | .faulted => if d.signal then .training else .down
  | .down => .down

/-- DLINK_RETRAIN: training restarts, from UP with the DOWN event; the completion carries the link state entered (R154). -/
def execDlinkRetrain (s : State) : Host.Outcome State Fault Refusal :=
  whileRunning s fun s => s.admitMgmt .dlinkRetrain fun st q s =>
    wrapUp s (s.answer st q .ok [put 0 s.dlink.retrained.code]).retrain

end Sys2Proof.Machine
end

