-- ==== Sys2Proof/Machine/Maintenance.lean ====
section
/-! DEFINITION. The actions that use the maintenance engine (chapters 4 and 6): line actions, store walks, the commit, the
bridge reset, and the engine's own steps. -/

namespace Sys2Proof.Machine

open Sys2Proof (Word LineAddr ByteAddr Granule LineData Frame)

/-! ## Line actions and store walks -/

/-- A line action is admitted (R127, R170): BUSY while the engine is busy, INVALID-VALUE for an argument over 34 bits,
otherwise it takes the engine and makes its step. -/
def State.startLineAction (s : State) (a : Action) (st : Fin 16) (q : QueuedFrame) : State :=
  if s.engine.isSome then s.answer st q .busy []
  else if bits q.argument 34 30 ≠ 0 then s.answer st q .invalidValue []
  else
    wrapUp s
      ((s.addOutstanding st q.tag).lineStep (Progress.start a st q.tag (lineOfWord q.argument) .waitLine))

/-- LINE_CLEAN (R131). -/
def execLineClean (s : State) : Host.Outcome State Fault Refusal :=
  whileRunning s fun s => s.admitMgmt .lineClean fun st q s => s.startLineAction .lineClean st q

/-- LINE_PURGE (R132). -/
def execLinePurge (s : State) : Host.Outcome State Fault Refusal :=
  whileRunning s fun s => s.admitMgmt .linePurge fun st q s => s.startLineAction .linePurge st q

/-- LINE_DROP (R133). -/
def execLineDrop (s : State) : Host.Outcome State Fault Refusal :=
  whileRunning s fun s => s.admitMgmt .lineDrop fun st q s => s.startLineAction .lineDrop st q

/-- A store walk is admitted (R127, R136): BUSY while the engine is busy, otherwise it takes the engine at set 0 way 0. -/
def State.startWalk (s : State) (a : Action) (st : Fin 16) (q : QueuedFrame) : State :=
  if s.engine.isSome then s.answer st q .busy []
  else (s.addOutstanding st q.tag).setEngine (some (Progress.start a st q.tag 0 .firstPass))

/-- STORE_CLEAN (R137). -/
def execStoreClean (s : State) : Host.Outcome State Fault Refusal :=
  whileRunning s fun s => s.admitMgmt .storeClean fun st q s => s.startWalk .storeClean st q

/-- STORE_PURGE (R137). -/
def execStorePurge (s : State) : Host.Outcome State Fault Refusal :=
  whileRunning s fun s => s.admitMgmt .storePurge fun st q s => s.startWalk .storePurge st q

/-! ## COMMIT-WINDOWS (section 4.6) -/

/-- Two windows share at least one granule (R90). -/
def WindowRecord.overlaps (a b : WindowRecord) : Bool := decide (a.start ≤ b.last ∧ b.start ≤ a.last)

/-- The reason a validation fails (R90), with its code (section 10.2). -/
inductive TableFault where
  | startAfterEnd
  | overlap
  deriving DecidableEq, Repr

/-- The code of an INVALID-TABLE reason. -/
def TableFault.code : TableFault → Nat
  | .startAfterEnd => 1
  | .overlap => 2

/-- The tests of R90 on the staging records from index `i` on, `seen` being the in-use records of lower index. -/
def validateFrom : List WindowRecord → Nat → List WindowRecord → Option (Nat × TableFault)
  | [], _, _ => none
  | r :: rest, i, seen =>
    if r.inUse = false then validateFrom rest (i + 1) seen
    else if r.last < r.start then some (i, .startAfterEnd)
    else if seen.any (fun x => r.overlaps x) then some (i, .overlap)
    else validateFrom rest (i + 1) (r :: seen)

/-- Validation of the staging copy (R90): the first failing index and its reason. -/
def WindowTable.validate (t : WindowTable) : Option (Nat × TableFault) := validateFrom t.staging.toList 0 []

/-- A record inserted into a list in ascending order of start granule. -/
def insertWindow (r : WindowRecord) : List WindowRecord → List WindowRecord
  | [] => [r]
  | x :: rest => if r.start ≤ x.start then r :: x :: rest else x :: insertWindow r rest

/-- The in-use staging records in ascending order of start granule (R91). -/
def WindowTable.sorted (t : WindowTable) : List WindowRecord :=
  (t.staging.toList.filter (·.inUse)).foldr insertWindow []

/-- The swap (R91, R83): the active copy replaced whole and the epoch increased by one. -/
def WindowTable.swapped (t : WindowTable) : WindowTable := { t with active := t.sorted, epoch := t.epoch + 1 }

/-- COMMIT_WINDOWS: the engine check, validation, the swap and the start of the drain, in the step of its admission (R89 to
R92). -/
def execCommitWindows (s : State) : Host.Outcome State Fault Refusal :=
  whileRunning s fun s => s.admitMgmt .commitWindows fun st q s =>
    if s.engine.isSome then s.answer st q .busy []
    else
      match s.windows.validate with
      | some (i, why) => s.answer st q .invalidTable [put 0 i + put 8 why.code]
      | none =>
        (((s.addOutstanding st q.tag).setWindows s.windows.swapped).setEngine
          (some (Progress.start .commit st q.tag 0 .drain))).advance

/-! ## BRIDGE-RESET (section 6.6) -/

/-- The running action is aborted (R142, R97): it is completed RESETTING, and nothing it did is undone. -/
def State.abort (s : State) : State :=
  match s.engine with
  | some p => s.complete p.stream p.tag .resetting []
  | none => s

/-- BRIDGE_RESET: any running action is aborted and the reset takes the engine in REFUSING (R142, R143). -/
def execBridgeReset (s : State) : Host.Outcome State Fault Refusal :=
  whileRunning s fun s => s.admitMgmt .bridgeReset fun st q s =>
    ((s.abort.addOutstanding st q.tag).setEngine
      (some (Progress.start .bridgeReset st q.tag 0 .refusing))).advance

/-! ## The engine's own steps -/

/-- LINE_ACTION_STEP: a waiting line action whose wait has ended makes its step again (R130, R134). -/
def execLineActionStep (s : State) : Host.Outcome State Fault Refusal :=
  whileRunning s fun s =>
    match s.engine with
    | some p =>
      if (p.phase = .waitLine ∨ p.phase = .waitSlot) ∧ p.wake then wrapUp s (s.lineStep p) else s
    | none => s

/-- WALK_VISIT: the first pass of a walk visits its next way, or repeats the visit that waited for a slot (R136, R138). -/
def execWalkVisit (s : State) : Host.Outcome State Fault Refusal :=
  whileRunning s fun s =>
    match s.engine with
    | some p =>
      if (p.phase = .firstPass ∨ p.phase = .purgeFirstPass) ∧ p.visitDue then wrapUp s (s.firstPassVisit p) else s
    | none => s

/-- WALK_REVISIT: a walk revisits the next passed-over way, or repeats the revisit that waited (R139, R138). -/
def execWalkRevisit (s : State) : Host.Outcome State Fault Refusal :=
  whileRunning s fun s =>
    match s.engine with
    | some p =>
      if (p.phase = .revisit ∨ p.phase = .purgeRevisit) ∧ p.visitDue then wrapUp s (s.revisit p) else s
    | none => s

/-- PLACE_ACTION_COMPLETION: a finished action in FINISHING places its completion when a place is free (R128, R148). -/
def execPlaceActionCompletion (s : State) : Host.Outcome State Fault Refusal :=
  whileRunning s fun s =>
    match s.engine with
    | some p => if p.phase = .finishing ∧ s.room then s.finish p else s
    | none => s

end Sys2Proof.Machine
end

