-- ==== Sys2Proof/Machine/Power.lean ====
section
/-! DEFINITION. The notice unit's own step and the RESET_N pin (R185, R188; R194, R195). -/

namespace Sys2Proof.Machine

open Sys2Proof (Word LineAddr ByteAddr Granule LineData Frame)

/-- The lowest-numbered source whose NOTICE is PENDING (R188). -/
def State.pendingNotice (s : State) : Option (Fin 6) :=
  (List.finRange 6).find? fun k => (s.notice k).mark == .pending

/-- PLACE_NOTICE: a due NOTICE is placed when a place is free, the lowest source first (R185, R188). -/
def execPlaceNotice (s : State) : Host.Outcome State Fault Refusal :=
  whileRunning s fun s =>
    match s.pendingNotice with
    | some k => s.placeNotice k
    | none => s

/-- RESET_N_LOW: every piece of state takes its power-on value and all work in flight ends; while the pin is low the state
holds those values (R194). The queue of commands is no state of the part and stays. -/
def execResetNLow (s : State) : Host.Outcome State Fault Refusal :=
  .next { State.reset with resetN := false, pending := s.pending }

/-- RESET_N_HIGH: the part begins working from its power-on values (R195); a pin that is high already does nothing. -/
def execResetNHigh (s : State) : Host.Outcome State Fault Refusal :=
  .next { s with resetN := true }

end Sys2Proof.Machine
end

