-- ==== Sys2Proof/Machine/Recall.lean ====
section
/-! DEFINITION. The recall handler (sections 2.5, 2.6): what it finds in the line store and the slots, what it changes, and
the RECALL-REPLY it forms in the same step. -/

namespace Sys2Proof.Machine

open Sys2Proof (Word LineAddr ByteAddr Granule LineData Frame Arrival)

/-- The FLUSH slot in QUEUED or SENDING that holds way `w` (R38, R40). -/
def State.flushHolding (s : State) (w : WayRef) : Option (Fin 4 × EvictionSlot) :=
  match (s.line w).holder with
  | .slot k =>
    match s.slot k with
    | some sl => if sl.kind = .flush ∧ sl.state.examined then some (k, sl) else none
    | none => none
  | _ => none

/-- The outcome for a word mask (R39): DATA when it is not empty, CLEAN when it is. -/
def recallOutcome (mask : BitVec 8) (words : LineData) : RecallOutcome :=
  if mask = 0 then .clean else .data mask words

/-- A recalled way (R39): SHARED after a RECALL-SHARE, INVALID after a RECALL-DROP, its marks clear, its holder kept. -/
def LineRecord.recalled (r : LineRecord) (drop : Bool) : LineRecord :=
  { r with state := if drop then .invalid else .shared, marks := 0 }

/-- A RECALL-DROP that finds the line SHARED in a way held by an UPGRADE entry that is not converted converts it (R41). -/
def State.convert (s : State) (r : LineRecord) (drop : Bool) : State :=
  match r.holder with
  | .entry n =>
    match s.entry n with
    | some e =>
      if drop ∧ r.state = .shared ∧ e.kind = .upgrade then s.setEntry n (some { e with converted := true }) else s
    | none => s
  | _ => s

/-- What a recall does to a slot that gave the words of its reply (R40, R42): PARKED and QUEUED free, SENDING is ANSWERED. A
freed PARKED slot leaves its owner without a victim. -/
def State.answerSlot (s : State) (k : Fin 4) (sl : EvictionSlot) : State :=
  match sl.state with
  | .parked n =>
    let s := match s.entry n with
      | some e => s.setEntry n (some { e with victim := none })
      | none => s
    s.releaseSlot k
  | .queued => s.releaseSlot k
  | .sending t => s.setSlot k (some { sl with state := .answered t })
  | .answered _ => s

/-- A recall of a line present in way `w` (R39 to R41): the way's marks and those of a FLUSH slot holding it give the mask. -/
def State.recallWay (s : State) (w : WayRef) (drop : Bool) : State × RecallOutcome :=
  let r := s.line w
  let outcome (mask : BitVec 8) := recallOutcome mask r.data
  let s1 := (s.setLine w (r.recalled drop)).convert r drop
  match s.flushHolding w with
  | some (k, sl) => (s1.answerSlot k sl, outcome (r.marks ||| sl.mask))
  | none => (s1, outcome r.marks)

/-- The slot in PARKED, QUEUED or SENDING that carries a line absent from the store (R38, R42). -/
def State.slotCarrying (s : State) (l : LineAddr) : Option (Fin 4 × EvictionSlot) :=
  (List.finRange 4).findSome? fun k =>
    match s.slot k with
    | some sl => if sl.line = l ∧ sl.state.examined ∧ sl.kind ≠ .flush then some (k, sl) else none
    | none => none

/-- The reply formed from a slot (R42). -/
def EvictionSlot.recallOutcome (sl : EvictionSlot) : RecallOutcome :=
  match sl.kind with
  | .release => .clean
  | _ => .data sl.mask sl.data

/-- A recall is answered from what the handler finds (R37, R38, R43). -/
def State.recallEffect (s : State) (l : LineAddr) (drop : Bool) : State × RecallOutcome :=
  match s.lookup l with
  | some w => s.recallWay w drop
  | none =>
    match s.slotCarrying l with
    | some (k, sl) => (s.answerSlot k sl, sl.recallOutcome)
    | none => (s, .notHeld)

/-- A recall is taken whole while the link is UP (R37): the effect, the RECALL-REPLY formed, and then an entry that waited
for a freed slot to be sent goes on (R49, R56); in TRAINING or FAULTED it is discarded (R153). -/
def State.takeRecall (s : State) (homeTag : BitVec 8) (l : LineAddr) (drop : Bool) : State :=
  if s.linkUp then
    let (s1, outcome) := s.recallEffect l drop
    wrapUp s (s1.form (.recallReply homeTag l outcome)).endSlotNotSent
  else s

/-- RECALL_SHARE: a RECALL-SHARE is taken (R37 to R43). -/
def execRecallShare (a : Arrival) (s : State) : Host.Outcome State Fault Refusal :=
  whileRunning s fun s => s.takePacket a fun p =>
    match p with
    | .recallShare h l => some fun s => s.takeRecall h l false
    | _ => none

/-- RECALL_DROP: a RECALL-DROP is taken (R37 to R43). -/
def execRecallDrop (a : Arrival) (s : State) : Host.Outcome State Fault Refusal :=
  whileRunning s fun s => s.takePacket a fun p =>
    match p with
    | .recallDrop h l => some fun s => s.takeRecall h l true
    | _ => none

end Sys2Proof.Machine
end

