-- ==== Sys2Proof/Machine/Tracker.lean ====
section
/-! DEFINITION. The rows about one tracker entry or one slot (chapter 3): the service of parked requests, the repeats of
victim choice and eviction step, the issue, and the sending of a slot. -/

namespace Sys2Proof.Machine

open Sys2Proof (Word LineAddr ByteAddr Granule LineData Frame)

/-! ## Service (section 3.4) -/

/-- The status of a failure mark. -/
def FailMark.status : FailMark → Status
  | .failed => .failed
  | .linkDown => .linkDown

/-- The front request of entry `n` leaves its list (R62, R52): its completion is placed, the ENTRY-FULL marks for the line are
lifted (R108), and the entry frees when the list is empty (R64). -/
def State.serveWith (s : State) (n : Fin 12) (e : TrackerEntry) (r : Request) (rest : List Request) (status : Status)
    (words : List Word) : State :=
  let s := s.complete r.stream r.tag status words
  let s : State := { s with streams := s.streams.map (StreamRecord.liftFull e.line) }
  if rest.isEmpty then s.freeEntryAt n else s.setEntry n (some { e with parked := rest, answer := .none })

/-- One service of entry `n`'s front request (R62): by failure mark, by the reply that answered it, or by replay, which
completes a hit or turns the entry (R18, R63). -/
def State.serveFront (s : State) (n : Fin 12) (e : TrackerEntry) (r : Request) (rest : List Request) : State :=
  match r.failure, e.answer with
  | some m, _ => s.serveWith n e r rest m.status []
  | none, .wordData ws => s.serveWith n e r rest .ok ws
  | none, .done => s.serveWith n e r rest .ok []
  | none, .none =>
    match s.work r with
    | none => (s.hit r).serveWith n e r rest .ok (s.hitWords r)
    | some k => s.turnEntry n k r

/-- SERVE_PARKED_REQUEST: an ENDING entry, given an egress place, serves its front parked request (R62). -/
def execServeParkedRequest (entry : Fin 12) (s : State) : Host.Outcome State Fault Refusal :=
  whileRunning s fun s =>
    match s.entry entry with
    | some e =>
      match e.phase, e.parked with
      | .ending, r :: rest => if s.room then wrapUp s (s.serveFront entry e r rest) else s
      | _, _ => s
    | none => s

/-! ## Repeats (sections 3.2, 3.6) -/

/-- The entry owes a repeat of its victim choice (R11, R55): it waits NO-WAY, or NO-SLOT with a slot freed since. -/
def TrackerEntry.victimDue (e : TrackerEntry) : Bool :=
  e.kind.isFetch && (e.phase == .waiting .noWay || (e.phase == .waiting .noSlot && e.wake))

/-- VICTIM_CHOICE: a FETCH entry that waits repeats its victim choice from step 1 of R9 (R9, R10, R11, R55). -/
def execVictimChoice (entry : Fin 12) (s : State) : Host.Outcome State Fault Refusal :=
  whileRunning s fun s =>
    match s.entry entry with
    | some e => if e.victimDue then wrapUp s (s.victimStep entry) else s
    | none => s

/-- The entry owes a repeat of its eviction step (R56): it waits NO-SLOT and a slot has freed since. -/
def TrackerEntry.evictionDue (e : TrackerEntry) : Bool :=
  e.kind == .purgeDirect && e.phase == .waiting .noSlot && e.wake

/-- EVICTION_STEP: a PURGE-DIRECT entry that waits NO-SLOT repeats its eviction step; a repeat that finds the line absent goes
back to step 1 (R56). -/
def execEvictionStep (entry : Fin 12) (s : State) : Host.Outcome State Fault Refusal :=
  whileRunning s fun s =>
    match s.entry entry with
    | some e =>
      if e.evictionDue then
        wrapUp s (if (s.lookup e.line).isSome then s.evictStep entry else s.step1 entry)
      else s
    | none => s

/-- ENTRY_ISSUE: an entry that waits NO-TAG at step 4 asks for a tag (R58, R59, R155, R164). -/
def execEntryIssue (entry : Fin 12) (s : State) : Host.Outcome State Fault Refusal :=
  whileRunning s fun s =>
    match s.entry entry with
    | some e => if e.phase = .waiting .noTag then wrapUp s (s.step4 entry) else s
    | none => s

/-- SLOT_SEND: a QUEUED slot asks for a tag, and with the D-link UP and a tag FREE becomes SENDING (R71, R74, R56). -/
def execSlotSend (slot : Fin 4) (s : State) : Host.Outcome State Fault Refusal :=
  whileRunning s fun s =>
    match s.slot slot with
    | some sl => if sl.state = .queued ∧ s.linkUp then wrapUp s (s.queueSlot slot) else s
    | none => s

end Sys2Proof.Machine
end

