-- ==== Sys2Proof/Machine/ULink.lean ====
section
/-! DEFINITION. The U-link port (sections 5.2, 5.7, 5.8, 12.2): frames coming in, arrival, bad frames, lock, and the sending
of egress frames. -/

namespace Sys2Proof.Machine

open Sys2Proof (Word LineAddr ByteAddr Granule LineData Frame Arrival)

/-- What comes in on the U-link's receive lanes (R195): without lock nothing is received, and a frame whose start the
receiver did not get is discarded without a count. DESIGN CHOICE (log entry 31): the receiver has no bound, since R121 gives no
number of frames at which it is full. -/
def ULink.receive (u : ULink) (a : Arrival) : ULink :=
  if u.lock then
    match a with
    | .whole f => { u with rx := u.rx ++ [f], framing := false }
    | .start => { u with framing := true }
    | .finish f => if u.framing then { u with rx := u.rx ++ [f], framing := false } else u
    | .waiting => u
  else u

/-- The oldest frame waiting in the receiver, when the port may take it: while it holds lock and the egress queue has a free
place (R121, R195). -/
def State.ulinkFront (s : State) : Option Frame :=
  if s.ulink.lock ∧ s.room then s.ulink.rx.head? else none

/-- The port takes the oldest frame from its receiver. -/
def State.popULink (s : State) : State := s.setULink { s.ulink with rx := s.ulink.rx.tail }

/-- The requests in all intake queues (R103). -/
def State.pooled (s : State) : Nat := ((List.finRange 16).map fun st => (s.stream st).queue.length).sum

/-- A request frame arrives at the intake side (R103, R104, R123): queued, or answered RETRY or RESETTING at arrival. -/
def State.arrive (s : State) (q : QueuedFrame) : State :=
  if s.resetting then s.place (.completion q.stream q.tag .resetting [])
  else
    let r := s.stream q.stream
    if r.queue.length < Config.queueCap ∧ s.pooled < Config.poolCap then
      s.setStream q.stream { r with queue := r.queue ++ [q] }
    else s.place (.completion q.stream q.tag .retry [])

/-- REQUEST_FRAME_ARRIVAL: what comes in is received, and the oldest waiting frame, if it is a request frame, arrives (R103,
R104, R121, R123). -/
def execRequestFrameArrival (a : Arrival) (s : State) : Host.Outcome State Fault Refusal :=
  whileRunning s fun s =>
    let s := s.setULink (s.ulink.receive a)
    match s.ulinkFront.bind requestFrame with
    | some q => s.popULink.arrive q
    | none => s

/-- A frame that fails its CRC, or that ends before its word 0 is complete (R105). -/
def isBadULinkFrame (f : Frame) : Bool := (requestFrame f).isNone

/-- U_LINK_BAD_FRAME: what comes in is received, and the oldest waiting frame, if it is a bad one, is dropped unanswered and
counted (R105, R121). -/
def execULinkBadFrame (a : Arrival) (s : State) : Host.Outcome State Fault Refusal :=
  whileRunning s fun s =>
    let s := s.setULink (s.ulink.receive a)
    match s.ulinkFront with
    | some f =>
      if isBadULinkFrame f then
        let s := s.popULink
        s.setULink { s.ulink with badFrames := satInc s.ulink.badFrames }
      else s
    | none => s

/-- U_LINK_LOCK_GAINED: the port takes frames from the next frame start and resumes sending (R195). -/
def execULinkLockGained (s : State) : Host.Outcome State Fault Refusal :=
  whileRunning s fun s =>
    if s.ulink.lock then s else s.setULink { s.ulink with lock := true, framing := false }

/-- U_LINK_LOCK_LOST: the frame in progress is discarded without a count and the port takes and sends no frame (R195). -/
def execULinkLockLost (s : State) : Host.Outcome State Fault Refusal :=
  whileRunning s fun s => s.setULink { s.ulink with lock := false, framing := false }

/-- EGRESS_FRAME_SENT: the port sends the head frame of the egress queue while its receiver holds lock (R120, R195). -/
def execEgressFrameSent (s : State) : Host.Outcome State Fault Refusal :=
  whileRunning s fun s =>
    match s.ulink.lock, s.ulink.egress with
    | true, f :: rest => s.setULink { s.ulink with egress := rest, lanes := f.encode }
    | _, _ => s

end Sys2Proof.Machine
end

