-- ==== Sys2Proof/Machine/Dispatch.lean ====
section
/-! DEFINITION. The one match on the commands: every row of spec/opcode_table.json and its meaning. -/

namespace Sys2Proof.Machine

open Sys2Proof (Instr)

def exec (i : Instr) (s : State) : Host.Outcome State Fault Refusal :=
  match i with
  | .requestFrameArrival a => Sys2Proof.Machine.execRequestFrameArrival a s
  | .uLinkBadFrame a => Sys2Proof.Machine.execULinkBadFrame a s
  | .uLinkLockGained => Sys2Proof.Machine.execULinkLockGained s
  | .uLinkLockLost => Sys2Proof.Machine.execULinkLockLost s
  | .egressFrameSent => Sys2Proof.Machine.execEgressFrameSent s
  | .read => Sys2Proof.Machine.execRead s
  | .write => Sys2Proof.Machine.execWrite s
  | .resettingRefusal => Sys2Proof.Machine.execResettingRefusal s
  | .streamRecordWrite => Sys2Proof.Machine.execStreamRecordWrite s
  | .stagingWindowWrite => Sys2Proof.Machine.execStagingWindowWrite s
  | .lineStoreControlWrite => Sys2Proof.Machine.execLineStoreControlWrite s
  | .noticeSourceWrite => Sys2Proof.Machine.execNoticeSourceWrite s
  | .mgmtWrite => Sys2Proof.Machine.execMgmtWrite s
  | .bridgeReset => Sys2Proof.Machine.execBridgeReset s
  | .commitWindows => Sys2Proof.Machine.execCommitWindows s
  | .stagingReload => Sys2Proof.Machine.execStagingReload s
  | .noticeClear => Sys2Proof.Machine.execNoticeClear s
  | .faultTake => Sys2Proof.Machine.execFaultTake s
  | .lineClean => Sys2Proof.Machine.execLineClean s
  | .linePurge => Sys2Proof.Machine.execLinePurge s
  | .lineDrop => Sys2Proof.Machine.execLineDrop s
  | .storeClean => Sys2Proof.Machine.execStoreClean s
  | .storePurge => Sys2Proof.Machine.execStorePurge s
  | .dlinkRetrain => Sys2Proof.Machine.execDlinkRetrain s
  | .lineActionStep => Sys2Proof.Machine.execLineActionStep s
  | .walkVisit => Sys2Proof.Machine.execWalkVisit s
  | .walkRevisit => Sys2Proof.Machine.execWalkRevisit s
  | .placeActionCompletion => Sys2Proof.Machine.execPlaceActionCompletion s
  | .serveParkedRequest entry => Sys2Proof.Machine.execServeParkedRequest entry s
  | .victimChoice entry => Sys2Proof.Machine.execVictimChoice entry s
  | .evictionStep entry => Sys2Proof.Machine.execEvictionStep entry s
  | .entryIssue entry => Sys2Proof.Machine.execEntryIssue entry s
  | .slotSend slot => Sys2Proof.Machine.execSlotSend slot s
  | .dataS a => Sys2Proof.Machine.execDataS a s
  | .dataO a => Sys2Proof.Machine.execDataO a s
  | .grant a => Sys2Proof.Machine.execGrant a s
  | .wordData a => Sys2Proof.Machine.execWordData a s
  | .done a => Sys2Proof.Machine.execDone a s
  | .refused a => Sys2Proof.Machine.execRefused a s
  | .error a => Sys2Proof.Machine.execError a s
  | .recallShare a => Sys2Proof.Machine.execRecallShare a s
  | .recallDrop a => Sys2Proof.Machine.execRecallDrop a s
  | .responseTimerExpiry tag => Sys2Proof.Machine.execResponseTimerExpiry tag s
  | .staleWindowEnd tag => Sys2Proof.Machine.execStaleWindowEnd tag s
  | .signalPresent => Sys2Proof.Machine.execSignalPresent s
  | .signalLost => Sys2Proof.Machine.execSignalLost s
  | .trainingTimerExpiry => Sys2Proof.Machine.execTrainingTimerExpiry s
  | .helloAck a => Sys2Proof.Machine.execHelloAck a s
  | .dLinkBadFrame a => Sys2Proof.Machine.execDLinkBadFrame a s
  | .placeNotice => Sys2Proof.Machine.execPlaceNotice s
  | .resetNLow => Sys2Proof.Machine.execResetNLow s
  | .resetNHigh => Sys2Proof.Machine.execResetNHigh s
  | .dLinkPacketSent => Sys2Proof.Machine.execDLinkPacketSent s
  | .mgmtRead => Sys2Proof.Machine.execMgmtRead s
  | .malformedRefusal => Sys2Proof.Machine.execMalformedRefusal s

end Sys2Proof.Machine
end

