-- ==== Sys2Proof/Safety.lean ====
section
/-! DEFINITION. What a safe state is: the facts that the manual says hold at every moment, each as a predicate that every
step keeps and that the state after reset meets. And the words the claims are stated in: what it is for a head request to
be selected, for a packet to be taken, and what either leaves when nothing else happens. -/

namespace Sys2Proof.Machine

open Sys2Proof (Word LineAddr ByteAddr Granule LineData Frame Arrival Instr)

/-! ## Modified marks (R3, R26, R69) -/

/-- A way is MODIFIED exactly when at least one of its marks is set (R3). -/
def LineRecord.MarksAgree (r : LineRecord) : Prop := r.state = .modified ↔ r.marks ≠ 0

/-- A slot's word mask is never empty for a PUTBACK or FLUSH and always empty for a RELEASE (R26, R176); a PARKED slot holds a
victim, a PUTBACK when the victim was MODIFIED and a RELEASE when it was OWNED (R10, R69). -/
def EvictionSlot.MaskAgrees (sl : EvictionSlot) : Prop :=
  (sl.kind = .release ↔ sl.mask = 0) ∧
    ∀ n, sl.state = .parked n →
      sl.kind = .putback ∧ sl.originState = .modified ∨ sl.kind = .release ∧ sl.originState = .owned

/-- Marks, states and masks agree everywhere. -/
def State.MarksAgree (s : State) : Prop :=
  (∀ w, (s.line w).MarksAgree) ∧ ∀ k sl, s.slot k = some sl → sl.MaskAgrees

/-! ## Capacities (About This Manual 2.3; R50, R82, R100, R103, R113, R120, R127, R136, R180) -/

/-- The sum of the lengths of the intake queues, as the shared pool counts them (R103). -/
def State.queuedTotal (s : State) : Nat := ((List.finRange 16).map fun st => (s.stream st).queue.length).sum

/-- The number of a way in the walk's order, 0 to 511 (R136). -/
def WayRef.index (w : WayRef) : Nat := 4 * w.set.val + w.way.val

/-- How many ways a walk has moved past: none before its first pass, those before its position in it, all 512 after. -/
def Progress.reached (p : Progress) : Nat :=
  match p.phase with
  | .refusing => 0
  | .drain => 0
  | .firstPass => p.position.index
  | .purgeFirstPass => p.position.index
  | _ => 512

/-- The own-slot set holds at most four slots and the passed-over list at most 512 ways, neither with duplicates, and no count
exceeds 512 (R127, R136, R137, R139). What keeps it so: the passed-over ways stand in the walk's order before what the walk has
reached, and each way it has moved past was counted or passed over at most once. -/
structure Progress.WithinCapacities (p : Progress) : Prop where
  ownFew : p.own.length ≤ 4
  ownDistinct : p.own.Nodup
  passedOverFew : p.passedOver.length ≤ 512
  passedOverDistinct : p.passedOver.Nodup
  purged : p.purged ≤ 512
  cleaned : p.cleaned ≤ 512
  skipped : p.skipped ≤ 512
  inOrder : p.passedOver.Pairwise fun a b => a.index < b.index
  behind : ∀ w ∈ p.passedOver, w.index < p.reached
  counted : p.purged + p.cleaned + p.skipped + p.passedOver.length ≤ p.reached

/-- No collection that has a capacity holds more than it can: the egress queue, the intake queues and their pool, a stream's
outstanding tags (its depth is at most 16), the parked requests of a tracker entry in use (one to four), the active copy, the
fault record, and what the engine's progress record holds. The receivers and the D-link transmitter have no capacity in the
model (log entries 29 and 31). -/
structure State.WithinCapacities (s : State) : Prop where
  egress : s.ulink.egress.length ≤ 64
  queue : ∀ st, (s.stream st).queue.length ≤ 8
  pool : s.queuedTotal ≤ 32
  depth : ∀ st, (s.stream st).depth.toNat ≤ 16
  outstanding : ∀ st, (s.stream st).outstanding.length ≤ 16
  parked : ∀ n e, s.entry n = some e → 1 ≤ e.parked.length ∧ e.parked.length ≤ 4
  active : s.windows.active.length ≤ 24
  faults : s.faults.entries.length ≤ 8
  engine : ∀ p, s.engine = some p → p.WithinCapacities

/-! ## Stream records (R100, R101, R113) -/

/-- A stream record's depth is 1 to 16, and its outstanding tags are at most 16, without duplicates. -/
structure StreamRecord.Legal (r : StreamRecord) : Prop where
  depthLow : 1 ≤ r.depth.toNat
  depthHigh : r.depth.toNat ≤ 16
  distinct : r.outstanding.Nodup
  few : r.outstanding.length ≤ 16

/-- Every stream record is legal, and stream 0 is OPEN and holds MANAGE (R101). -/
structure State.StreamsLegal (s : State) : Prop where
  legal : ∀ st, (s.stream st).Legal
  zeroOpen : (s.stream 0).isOpen = true
  zeroManage : (s.stream 0).manage = true

/-! ## The active window copy (R82) -/

/-- The active copy is sorted by start granule, no two of its windows share a granule, and each of its records is in use and
covers at least one granule (R82, R90). -/
def WindowTable.Sorted (t : WindowTable) : Prop :=
  t.active.Pairwise (fun a b => a.last < b.start) ∧ ∀ r ∈ t.active, r.inUse = true ∧ r.start ≤ r.last

/-! ## Settings and attempts (R58, R60, R159) -/

/-- The response timeout is 1 to 255 units and the retry limit 0 to 7; a tracker entry's attempts never exceed 8, and an entry
that still waits to form its next attempt has formed at most 7 (R60, R159). -/
structure State.AttemptsLegal (s : State) : Prop where
  timeout : s.dlink.timeout ≠ 0
  retryLimit : s.dlink.retryLimit.toNat ≤ 7
  attempts : ∀ n e, s.entry n = some e → e.attempts ≤ 8
  waiting : ∀ n e why, s.entry n = some e → e.phase = .waiting why → e.attempts ≤ 7

/-! ## Lines of tracker entries (R50) -/

/-- At most one tracker entry names a line address (R50). -/
def State.LinesDistinct (s : State) : Prop :=
  ∀ m n a b, m ≠ n → s.entry m = some a → s.entry n = some b → a.line ≠ b.line

/-! ## The RESET_N pin (R194) -/

/-- While RESET_N is low every piece of state holds its power-on value (R194); the queue of commands is no state of the
part. -/
def State.LowHolds (s : State) : Prop :=
  s.resetN = false → s = { State.reset with resetN := false, pending := s.pending }

/-! ## The words of the claims: a head request, and what is done with it -/

/-- The command of the row that a head request is selected under. -/
def HeadRow.command : HeadRow → Instr
  | .read => .read
  | .write => .write
  | .streamRecordWrite => .streamRecordWrite
  | .stagingWindowWrite => .stagingWindowWrite
  | .lineStoreControlWrite => .lineStoreControlWrite
  | .noticeSourceWrite => .noticeSourceWrite
  | .mgmtWrite => .mgmtWrite
  | .bridgeReset => .bridgeReset
  | .commitWindows => .commitWindows
  | .stagingReload => .stagingReload
  | .noticeClear => .noticeClear
  | .faultTake => .faultTake
  | .lineClean => .lineClean
  | .linePurge => .linePurge
  | .lineDrop => .lineDrop
  | .storeClean => .storeClean
  | .storePurge => .storePurge
  | .dlinkRetrain => .dlinkRetrain
  | .mgmtRead => .mgmtRead
  | .malformedRefusal => .malformedRefusal

/-- With RESET_N high the arbiter selects request `q` at the head of stream `st` (R107, R109), and it is one of row `row`. -/
structure State.Selects (s : State) (row : HeadRow) (st : Fin 16) (q : QueuedFrame) : Prop where
  running : s.resetN = true
  selected : s.selected = some (st, q)
  row : q.row = row

/-- The selected head passes the four checks that apply to every request (R111). -/
structure State.Passes (s : State) (row : HeadRow) (st : Fin 16) (q : QueuedFrame) : Prop
    extends State.Selects s row st q where
  isOpen : (s.stream st).isOpen = true
  formOk : q.formOk = true
  newTag : q.tag ∉ (s.stream st).outstanding
  right : q.isMgmt = true → (s.stream st).manage = true

/-- The selected head is a READ or WRITE that passes checks 1 to 5 (R111, R112, R85): an active FAR window `win` covers its
granule, and does not refuse its write; `r` is the request with its effective policy settled (R86). -/
structure State.Reaches (s : State) (st : Fin 16) (q : QueuedFrame) (r : Request) : Prop where
  isAccess : q.row = .read ∨ q.row = .write
  passes : s.Passes q.row st q
  covered : ∃ win, s.windows.covering (granuleOfAddr q.addr) = some win ∧ win.kind = .far ∧
    (win.isProtected = true → q.row = .read) ∧
    r = q.toRequest st (effectivePolicy (s.stream st).policy win.ceiling s.lineStoreOn)

/-- The head of stream `st` has left its queue and the round-robin pointer has moved past the stream (R103, R106). -/
def State.headTaken (s : State) (st : Fin 16) : State :=
  { s with
    streams := s.streams.set st { s.stream st with queue := (s.stream st).queue.tail }
    arbiter := st + 1 }

/-- A completion stands at the tail of the egress queue (R120). -/
def State.completed (s : State) (st : Fin 16) (tag : Fin 64) (x : Status) (words : List Word) : State :=
  { s with ulink := { s.ulink with egress := s.ulink.egress ++ [.completion st tag x words] } }

/-- The head of stream `st` is taken and answered in one step (R110, R113, R116). -/
def State.answered (s : State) (st : Fin 16) (q : QueuedFrame) (x : Status) (words : List Word) : State :=
  (s.headTaken st).completed st q.tag x words

/-- The head of stream `st` is taken and its request becomes outstanding (R110, R113). -/
def State.begun (s : State) (st : Fin 16) (q : QueuedFrame) : State :=
  { s with
    streams := s.streams.set st { s.stream st with
      queue := (s.stream st).queue.tail
      outstanding := (s.stream st).outstanding ++ [q.tag] }
    arbiter := st + 1 }

/-- An outstanding request is completed: its completion stands at the tail of the egress queue and its tag has left its
stream's set (R113). -/
def State.ended (s : State) (st : Fin 16) (tag : Fin 64) (x : Status) (words : List Word) : State :=
  { s with streams := s.streams.set st { s.stream st with outstanding := (s.stream st).outstanding.erase tag } }.completed
    st tag x words

/-! ## The words of the claims: packets of the home -/

/-- The command of the row that a packet of the home is taken under. -/
def HomePacket.command : HomePacket → Arrival → Instr
  | .helloAck .. => .helloAck
  | .dataS .. => .dataS
  | .dataO .. => .dataO
  | .grant .. => .grant
  | .done .. => .done
  | .wordData .. => .wordData
  | .refused .. => .refused
  | .error .. => .error
  | .recallShare .. => .recallShare
  | .recallDrop .. => .recallDrop

/-- The D-link tag of a reply packet. -/
def HomePacket.tag? : HomePacket → Option (Fin 32)
  | .dataS t .. => some t
  | .dataO t .. => some t
  | .grant t .. => some t
  | .done t => some t
  | .wordData t .. => some t
  | .refused t => some t
  | .error t _ => some t
  | _ => none

/-- The line address a reply names, for an UNKNOWN-TAG fault entry (R156). -/
def HomePacket.line? : HomePacket → Option LineAddr
  | .dataS _ l _ => some l
  | .dataO _ l _ => some l
  | .grant _ l => some l
  | _ => none

/-- The home reason a reply carries, for an UNKNOWN-TAG fault entry (R156). -/
def HomePacket.reason? : HomePacket → Option HomeReason
  | .error _ r => some r
  | _ => none

/-- With RESET_N high, the D-link not DOWN and a place free in the egress queue (R122, R153), packet `p` is the oldest in the
D-link receiver once `a` has come in, and `rest` waits behind it. -/
structure State.Receives (s : State) (a : Arrival) (p : HomePacket) (rest : List Frame) : Prop where
  running : s.resetN = true
  notDown : s.dlink.state ≠ .down
  room : s.room = true
  front : ∃ f, (s.dlink.receive a).rx = f :: rest ∧ homePacket f = some p

/-- The oldest packet has been taken from the D-link receiver. -/
def State.packetTaken (s : State) (a : Arrival) (rest : List Frame) : State :=
  { s with dlink := { s.dlink.receive a with rx := rest } }

/-- A reply packet whose tag is IN-USE for `owner` is taken while the D-link is UP (R156). -/
structure State.Replies (s : State) (a : Arrival) (p : HomePacket) (rest : List Frame) (t : Fin 32) (owner : Owner) :
    Prop extends State.Receives s a p rest where
  tagged : p.tag? = some t
  up : s.dlink.state = .up
  inUse : ∃ timer, s.tag t = .inUse owner timer

/-- The packet has been taken and its tag is FREE (R156). -/
def State.replyTaken (s : State) (a : Arrival) (rest : List Frame) (t : Fin 32) : State :=
  (s.packetTaken a rest).setTag t .free

end Sys2Proof.Machine
end

