-- ==== Sys2Proof/Certificates/Slice0/Obligations.lean ====
section
/-! DEFINITION. The statements for the provers, chapter by chapter. A statement about a command gives the whole next state as
an equation, so it says at once that the command completes, what it changes, and that nothing else changes. Where an event
ends with `wrapUp`, what that adds (an opening noted, a phase of the engine ended, NOTICEs placed) is said by
`EnginePhasesEndThemselves` and `DueNoticesAreAnnounced`. -/

open Sys2Proof Sys2Proof.Machine

/-! ## The machine as a whole -/

/-- A step of a state whose queue has `c` at its front is `exec c` on the state with the queue's rest; on an empty queue the
block idles. Both are the model's (log entries 23 and 4): the manual has no queue of commands. -/
def Obligations.StepRunsFrontCommand : Prop :=
  (∀ (c : Instr) (rest : List Instr) (s : State),
    step { s with pending := c :: rest } = exec c { s with pending := rest }) ∧
  ∀ s : State, s.pending = [] → step s = .next s

/-- No command is refused and none faults, in any state: each answers a next state, and leaves the queue of commands as it is.
Both are the model's choice: a command whose step is not possible leaves the state as it is (log entry 1), and the queue of
commands is the model's own (log entry 23). -/
def Obligations.EveryCommandAnswersNext : Prop :=
  ∀ (c : Instr) (s : State), ∃ t, exec c s = .next t ∧ t.pending = s.pending

/-! ## Reset (chapter 12) -/

/-- RESET_N_LOW takes every piece of state to its power-on value (R194), RESET_N_HIGH starts the part working from the values
it holds (R195), and while the pin is low every other command leaves the state as it is (R194). That the queue of commands stays,
and the values R194 does not state (empty lanes, no lock, no frame in progress, an empty D-link transmitter), are the model's
choice (log entries 5, 9 and 23). -/
def Obligations.ResetPinRows : Prop :=
  ∀ s : State,
    exec .resetNLow s = .next { State.reset with resetN := false, pending := s.pending } ∧
    exec .resetNHigh s = .next { s with resetN := true } ∧
    ∀ c : Instr, s.resetN = false → c ≠ .resetNLow → c ≠ .resetNHigh → exec c s = .next s

/-- The values right after a power-on reset, block by block (R22, R78, R99, R124, R126, R166, R183, R189). -/
def Obligations.PowerOnValues : Prop :=
  (∀ w : WayRef, (State.reset.line w).state = .invalid ∧ (State.reset.line w).marks = 0 ∧ (State.reset.line w).tag = 0 ∧
    (State.reset.line w).data = Vector.replicate 8 0 ∧ (State.reset.line w).holder = .none ∧
    State.reset.victim w.set = 0) ∧
  (∀ n, State.reset.entry n = none) ∧ (∀ k, State.reset.slot k = none) ∧ State.reset.engine = none ∧
  (∀ k : Fin 24, State.reset.windows.staging[k] = ⟨false, 0, 0, .far, .writeBack, false⟩) ∧
  State.reset.windows.active = [] ∧ State.reset.windows.epoch = 0 ∧ State.reset.lineStoreOn = true ∧
  (∀ st, State.reset.stream st = ⟨st == 0, .bypass, 4, st == 0, [], .clear, []⟩) ∧ State.reset.arbiter = 0 ∧
  State.reset.ulink.egress = [] ∧ State.reset.ulink.badFrames = 0 ∧
  State.reset.dlink.state = .down ∧ State.reset.dlink.signal = false ∧ State.reset.dlink.trainingTimer = none ∧
  State.reset.dlink.homeId = 0 ∧ State.reset.dlink.timeout = 16 ∧ State.reset.dlink.retryLimit = 2 ∧
  (∀ t, State.reset.tag t = .free) ∧ State.reset.dlink.badFrames = 0 ∧ State.reset.dlink.staleReplies = 0 ∧
  State.reset.dlink.unknownTags = 0 ∧ State.reset.dlink.timeouts = 0 ∧ State.reset.dlink.rx = [] ∧
  State.reset.faults.entries = [] ∧ State.reset.faults.overflow = 0 ∧
  ∀ k, State.reset.notice k = ⟨false, false, 0, .none, 0⟩

/-! ## The ports (chapters 5, 7, 12) -/

/-- Lock of the U-link receiver (R195), and what either receiver gains from an arrival: nothing without lock or signal, and a
frame only from its start on (R195, R150, R160). The model's choice: the forms of an arrival (log entry 6), that nothing is
received on the D-link without the signal (log entry 24), that no number of frames fills a receiver (log entry 31), and that a
lock gained twice changes nothing (log entry 1). -/
def Obligations.LockGatesReception : Prop :=
  (∀ s : State, s.resetN = true →
    exec .uLinkLockLost s = .next { s with ulink := { s.ulink with lock := false, framing := false } } ∧
    (s.ulink.lock = true → exec .uLinkLockGained s = .next s) ∧
    (s.ulink.lock = false →
      exec .uLinkLockGained s = .next { s with ulink := { s.ulink with lock := true, framing := false } })) ∧
  (∀ (u : ULink) (a : Arrival) (f : Frame),
    (u.lock = false → u.receive a = u) ∧
    (u.lock = true → u.receive (.whole f) = { u with rx := u.rx ++ [f], framing := false }) ∧
    (u.lock = true → u.receive .start = { u with framing := true }) ∧
    (u.lock = true → u.framing = true → u.receive (.finish f) = { u with rx := u.rx ++ [f], framing := false }) ∧
    (u.framing = false → u.receive (.finish f) = u) ∧ u.receive .waiting = u) ∧
  ∀ (d : DLink) (a : Arrival) (f : Frame),
    (d.signal = false → d.receive a = d) ∧
    (d.signal = true → d.receive (.whole f) = { d with rx := d.rx ++ [f], framing := false }) ∧
    (d.signal = true → d.receive .start = { d with framing := true }) ∧
    (d.signal = true → d.framing = true → d.receive (.finish f) = { d with rx := d.rx ++ [f], framing := false }) ∧
    (d.framing = false → d.receive (.finish f) = d) ∧ d.receive .waiting = d

/-- A request frame taken with good CRC is queued, or answered RETRY or RESETTING at arrival (R103, R104, R123). -/
def Obligations.RequestFrameArrives : Prop :=
  ∀ (s : State) (a : Arrival) (f : Frame) (rest : List Frame) (q : QueuedFrame),
    s.resetN = true → s.ulink.lock = true → s.room = true → (s.ulink.receive a).rx = f :: rest →
    requestFrame f = some q →
    let u : ULink := { s.ulink.receive a with rx := rest }
    let r := s.stream q.stream
    (s.resetting = true → exec (.requestFrameArrival a) s =
      .next ({ s with ulink := u }.completed q.stream q.tag .resetting [])) ∧
    (s.resetting = false → r.queue.length < 8 → s.queuedTotal < 32 → exec (.requestFrameArrival a) s =
      .next { s with ulink := u, streams := s.streams.set q.stream { r with queue := r.queue ++ [q] } }) ∧
    (s.resetting = false → (8 ≤ r.queue.length ∨ 32 ≤ s.queuedTotal) → exec (.requestFrameArrival a) s =
      .next ({ s with ulink := u }.completed q.stream q.tag .retry []))

/-- A bad frame on either link is dropped unanswered and counted, the counter saturating (R105, R160). -/
def Obligations.BadFramesAreCounted : Prop :=
  ∀ (s : State) (a : Arrival) (f : Frame) (rest : List Frame), s.resetN = true → s.room = true →
    (s.ulink.lock = true → (s.ulink.receive a).rx = f :: rest → requestFrame f = none →
      exec (.uLinkBadFrame a) s = .next { s with ulink := { s.ulink.receive a with
        rx := rest
        badFrames := if s.ulink.badFrames = 65535 then 65535 else s.ulink.badFrames + 1 } }) ∧
    (s.dlink.state ≠ .down → (s.dlink.receive a).rx = f :: rest → homePacket f = none →
      exec (.dLinkBadFrame a) s = .next { s with dlink := { s.dlink.receive a with
        rx := rest
        badFrames := if s.dlink.badFrames = 65535 then 65535 else s.dlink.badFrames + 1 } })

/-- While the egress queue is full no frame or packet is taken from a receiver, no head is selected, no parked request is
served, and no completion or NOTICE is placed (R109, R121, R122). -/
def Obligations.FullEgressQueuePausesProducers : Prop :=
  ∀ s : State, s.resetN = true → 64 ≤ s.ulink.egress.length →
    (∀ a, exec (.requestFrameArrival a) s = .next { s with ulink := s.ulink.receive a }) ∧
    (∀ a, exec (.uLinkBadFrame a) s = .next { s with ulink := s.ulink.receive a }) ∧
    (∀ (p : HomePacket) (a), exec (p.command a) s = .next { s with dlink := s.dlink.receive a }) ∧
    (∀ a, exec (.dLinkBadFrame a) s = .next { s with dlink := s.dlink.receive a }) ∧
    (∀ row : HeadRow, exec row.command s = .next s) ∧ exec .resettingRefusal s = .next s ∧
    (∀ n, exec (.serveParkedRequest n) s = .next s) ∧ exec .placeActionCompletion s = .next s ∧
    exec .placeNotice s = .next s

/-- The U-link port sends the head frame of the egress queue while it holds lock (R120, R195), and the D-link transmitter the
oldest formed packet while the link is UP or TRAINING (R23). -/
def Obligations.OldestIsSentFirst : Prop :=
  (∀ (s : State) (f : EgressFrame) (rest : List EgressFrame), s.resetN = true → s.ulink.lock = true →
    s.ulink.egress = f :: rest →
    exec .egressFrameSent s = .next { s with ulink := { s.ulink with egress := rest, lanes := f.encode } }) ∧
  ∀ (s : State) (p : BridgePacket) (rest : List BridgePacket), s.resetN = true →
    (s.dlink.state = .up ∨ s.dlink.state = .training) → s.dlink.tx = p :: rest →
    exec .dLinkPacketSent s = .next { s with dlink := { s.dlink with tx := rest, lanes := p.encode } }

/-- Word 0 of a COMPLETION and the word of a NOTICE, field by field, every other bit zero, and the codes of the fourteen statuses
(section 10.2, R191). -/
def Obligations.EgressFrameLayout : Prop :=
  (∀ (st : Fin 16) (tag : Fin 64) (x : Status) (ws : List Word), ws.length ≤ 8 →
    ∃ w, (EgressFrame.completion st tag x ws).encode = w :: ws ∧ bits w 0 4 = 8 ∧ bits w 4 4 = st.val ∧
      bits w 8 6 = tag.val ∧ bits w 14 2 = 0 ∧ bits w 16 4 = x.code ∧ bits w 20 4 = ws.length ∧ bits w 24 40 = 0) ∧
  (∀ xc ∈ [(Status.ok, 0), (.retry, 1), (.streamClosed, 2), (.malformed, 3), (.duplicateTag, 4), (.noWindow, 5), (.denied, 6),
    (.isProtected, 7), (.failed, 8), (.linkDown, 9), (.resetting, 10), (.busy, 11), (.invalidValue, 12), (.invalidTable, 13)],
    xc.1.code = xc.2) ∧
  ∀ (target : Fin 16) (source : Fin 6) (number : BitVec 8),
    ∃ w, (EgressFrame.notice target source number).encode = [w] ∧ bits w 0 4 = 9 ∧ bits w 4 4 = target.val ∧
      bits w 8 8 = 0 ∧ bits w 16 3 = source.val ∧ bits w 19 5 = 0 ∧ bits w 24 8 = number.toNat ∧ bits w 32 32 = 0

/-- D-link packets, both ways. The words of every packet to the home, field by field, every other bit zero and the lanes outside a
direct access zero, and the code and the bytes of each size (section 10.3, R192). The packet that a frame with good CRC is taken
as: by its kind code and the fields its kind uses, surplus words as if absent, an ERROR whose reason field is 0 as PROTOCOL; and
a bad frame where the CRC failed, no header word is complete, the kind code is none of the home's or the words are too few
(R160, R192). A WORD-DATA of size code 5 to 7 requires eight data words or one: which of the two is a free value (log entry 7).
That a fragment after a packet's last whole word counts as no word is the model's choice (log entry 34). -/
def Obligations.BridgePacketLayout : Prop :=
  (∀ zc ∈ [(Size.b1, 0, 1), (.b2, 1, 2), (.b4, 2, 4), (.b8, 3, 8), (.b64, 4, 64)],
    zc.1.code = zc.2.1 ∧ zc.1.bytes = zc.2.2) ∧
  (∀ (t : Fin 32) (l : LineAddr) (m : BitVec 8) (ws : LineData) (a : ByteAddr) (z : Size) (h : BitVec 8)
      (data : List Word),
    (∃ w v, BridgePacket.hello.encode = [w, v] ∧ bits w 0 5 = 1 ∧ bits w 5 59 = 0 ∧ bits v 0 8 = 64 ∧ bits v 8 8 = 0 ∧
      bits v 16 16 = 0x0612 ∧ bits v 32 32 = 0) ∧
    (∃ w v rest, (BridgePacket.directWrite t a z data).encode = w :: v :: rest ∧ bits w 0 5 = 9 ∧ bits w 5 3 = 0 ∧
      bits w 8 5 = t.val ∧ bits w 13 3 = 0 ∧ bits w 16 3 = z.code ∧ bits w 19 45 = 0 ∧ bits v 0 40 = a.toNat ∧
      bits v 40 24 = 0 ∧ (z = .b64 → rest = data.take 8) ∧
      (z ≠ .b64 → ∃ x : Word, rest = [x] ∧ ∀ i < 64, x.getLsbD i =
        (decide (a.toNat % 8 ≤ i / 8 ∧ i / 8 < a.toNat % 8 + z.bytes) && (data.getD 0 0).getLsbD i))) ∧
    (∀ kp ∈ [(2, BridgePacket.getS t l), (3, .getO t l), (4, .upgrade t l), (6, .release t l)],
      ∃ w v, kp.2.encode = [w, v] ∧ bits w 0 5 = kp.1 ∧ bits w 5 3 = 0 ∧ bits w 8 5 = t.val ∧ bits w 13 51 = 0 ∧
        bits v 0 34 = l.toNat ∧ bits v 34 30 = 0) ∧
    (∀ kp ∈ [(5, BridgePacket.putback t l m ws), (7, .flush t l m ws)],
      ∃ w v, kp.2.encode = w :: v :: ws.toList ∧ bits w 0 5 = kp.1 ∧ bits w 5 3 = 0 ∧ bits w 8 5 = t.val ∧
        bits w 13 11 = 0 ∧ bits w 24 8 = m.toNat ∧ bits w 32 32 = 0 ∧ bits v 0 34 = l.toNat ∧ bits v 34 30 = 0) ∧
    (∃ w v, (BridgePacket.directRead t a z).encode = [w, v] ∧ bits w 0 5 = 8 ∧ bits w 5 3 = 0 ∧ bits w 8 5 = t.val ∧
      bits w 13 3 = 0 ∧ bits w 16 3 = z.code ∧ bits w 19 45 = 0 ∧ bits v 0 40 = a.toNat ∧ bits v 40 24 = 0) ∧
    ∀ io ∈ [(1, RecallOutcome.notHeld), (2, .clean), (3, .data m ws)],
      ∃ w v, (BridgePacket.recallReply h l io.2).encode = w :: v :: (if io.1 = 3 then ws.toList else []) ∧
        bits w 0 5 = 0x0A ∧ bits w 5 3 = 0 ∧ bits w 8 8 = h.toNat ∧ bits w 16 4 = 0 ∧ bits w 20 2 = io.1 ∧
        bits w 22 2 = 0 ∧ bits w 24 8 = (if io.1 = 3 then m.toNat else 0) ∧ bits w 32 32 = 0 ∧
        bits v 0 34 = l.toNat ∧ bits v 34 30 = 0) ∧
  ∀ (h v : Word) (ws : LineData) (more : List Word) (t : Fin 32) (l : LineAddr),
    bits h 8 5 = t.val → bits v 0 34 = l.toNat →
    let kind := bits h 0 5
    let size := bits h 16 3
    let homeTag : BitVec 8 := BitVec.ofNat 8 (bits h 8 8)
    let taken (words : List Word) : Option HomePacket := homePacket ⟨true, h :: words⟩
    (kind = 0x11 → taken (v :: more) =
      some (.helloAck (BitVec.ofNat 8 (bits v 0 8)) (BitVec.ofNat 16 (bits v 16 16)))) ∧
    (kind = 0x12 → taken (v :: (ws.toList ++ more)) = some (.dataS t l ws)) ∧
    (kind = 0x13 → taken (v :: (ws.toList ++ more)) = some (.dataO t l ws)) ∧
    (kind = 0x14 → taken (v :: more) = some (.grant t l)) ∧
    (kind = 0x15 → taken more = some (.done t)) ∧
    (kind = 0x16 → size ≤ 3 → taken (v :: more) = some (.wordData t size [v])) ∧
    (kind = 0x16 → size = 4 → taken (ws.toList ++ more) = some (.wordData t size ws.toList)) ∧
    (kind = 0x16 → 5 ≤ size → ∃ n, (n = 1 ∨ n = 8) ∧
      taken (ws.toList ++ more) = some (.wordData t size (ws.toList.take n))) ∧
    (kind = 0x17 → taken more = some (.refused t)) ∧
    (kind = 0x18 → taken more = some (.error t
      (if bits h 22 2 = 1 then .poisoned else if bits h 22 2 = 2 then .outOfRange else .protocol))) ∧
    (kind = 0x19 → taken (v :: more) = some (.recallShare homeTag l)) ∧
    (kind = 0x1A → taken (v :: more) = some (.recallDrop homeTag l)) ∧
    (∀ kn ∈ [(0x11, 1), (0x12, 9), (0x13, 9), (0x14, 1), (0x16, if size = 4 then 8 else 1), (0x19, 1), (0x1A, 1)],
      kind = kn.1 → more.length < kn.2 → taken more = none) ∧
    (kind < 0x11 ∨ 0x1A < kind → taken more = none) ∧
    homePacket ⟨false, more⟩ = none ∧ homePacket ⟨true, []⟩ = none

/-! ## Selection and the checks of admission (chapter 5) -/

/-- The arbiter selects, from the round-robin pointer upward, the first stream whose head is eligible (R107, R109); during a
bridge reset every non-empty queue is eligible for a refusal (R123). -/
def Obligations.ArbiterSelectsFirstEligible : Prop :=
  let eligible (r : StreamRecord) : Prop :=
    r.outstanding.length < r.depth.toNat ∧ (r.policy = .bypassOrdered → r.outstanding = []) ∧ r.blocked = .clear
  ∀ (s : State) (st : Fin 16) (q : QueuedFrame),
    (s.selected = some (st, q) ↔ s.ulink.egress.length < 64 ∧ s.resetting = false ∧
      ∃ i : Fin 16, st = s.arbiter + i ∧ (s.stream st).queue.head? = some q ∧ eligible (s.stream st) ∧
        ∀ j < i, (s.stream (s.arbiter + j)).queue = [] ∨ ¬ eligible (s.stream (s.arbiter + j))) ∧
    (s.selectedForRefusal = some (st, q) ↔ s.ulink.egress.length < 64 ∧ s.resetting = true ∧
      ∃ i : Fin 16, st = s.arbiter + i ∧ (s.stream st).queue.head? = some q ∧
        ∀ j < i, (s.stream (s.arbiter + j)).queue = [])

/-- Every row about a head request refuses one that fails a check: the first check that fails names the status, the head is
taken and answered at once, and nothing else changes (R110, R111). A row about a head that names nothing the map has always
does so (R167). The form check passes a request exactly when its kind, size, unit, index and action exist, its reserved fields
are zero, its address is a multiple of its size, a write names an index that is written, and its length is the one its kind and
size require (R111, R167, R190). The fields of a request frame stand at the bits of section 10.1, and a READ or WRITE is taken as the
request they spell. What the receiver takes as a request frame keeps its words, or the mark that their number was wrong (R190).
The model's choice: the row a head belongs to is told by its kind, unit, index and action, one that names nothing belongs to
MALFORMED_REFUSAL, and a refusal stands under the head's own row (log entry 20); a fragment after the last whole word of a frame
counts as no word (log entry 34). -/
def Obligations.AdmissionRefusesByFirstCheck : Prop :=
  (∀ (row : HeadRow) (s : State) (st : Fin 16) (q : QueuedFrame) (x : Status), s.Selects row st q →
    ((s.stream st).isOpen = false ∧ x = .streamClosed ∨
      (s.stream st).isOpen = true ∧ q.formOk = false ∧ x = .malformed ∨
      (s.stream st).isOpen = true ∧ q.formOk = true ∧ q.tag ∈ (s.stream st).outstanding ∧ x = .duplicateTag ∨
      (s.stream st).isOpen = true ∧ q.formOk = true ∧ q.tag ∉ (s.stream st).outstanding ∧ q.isMgmt = true ∧
        (s.stream st).manage = false ∧ x = .denied) →
    exec row.command s = .next (s.answered st q x [])) ∧
  (∀ (s : State) (st : Fin 16) (q : QueuedFrame), s.Selects .malformedRefusal st q →
    exec .malformedRefusal s =
      .next (s.answered st q (if (s.stream st).isOpen then .malformed else .streamClosed) [])) ∧
  (∀ q : QueuedFrame,
    let w := q.word0
    let kind := bits w 0 4
    let size := bits w 16 3
    let unit := bits w 24 3
    let index := bits w 32 16
    let action := bits w 48 8
    let shared : Prop := bits w 14 2 = 0 ∧ bits w 19 5 = 0 ∧ q.lengthWrong = false
    let management : Prop := shared ∧ size = 0 ∧ bits w 27 5 = 0 ∧ bits w 56 8 = 0
    let exists_ : Prop := unit = 0 ∧ index ≤ 4 ∨ unit = 1 ∧ index ≤ 15 ∨
      unit = 2 ∧ (index ≤ 23 ∨ 32 ≤ index ∧ index ≤ 55 ∨ 256 ≤ index ∧ index ≤ 279 ∨ 288 ≤ index ∧ index ≤ 311 ∨
        index = 512) ∨
      unit = 3 ∧ index ≤ 5 ∨ unit = 4 ∧ index ≤ 2 ∨
      unit = 5 ∧ (index ≤ 511 ∨ 1024 ≤ index ∧ index ≤ 1035 ∨ 1040 ≤ index ∧ index ≤ 1043 ∨
        1088 ≤ index ∧ index ≤ 1099 ∨ 1104 ≤ index ∧ index ≤ 1107) ∨
      unit = 6 ∧ index ≤ 6
    let written : Prop := unit = 0 ∧ index = 2 ∨ unit = 1 ∧ index ≤ 15 ∨
      unit = 2 ∧ (index ≤ 23 ∨ 32 ≤ index ∧ index ≤ 55) ∨ unit = 3 ∧ index ≤ 5 ∨ unit = 6 ∧ (index = 1 ∨ index = 2)
    let acts : Prop := (unit, action) ∈ [(0, 1), (2, 1), (2, 2), (3, 1), (4, 1), (5, 1), (5, 2), (5, 3), (5, 4), (5, 5),
      (6, 1)]
    q.formOk = true ↔
      (kind = 1 ∨ kind = 2) ∧ shared ∧
          (∃ bytes, (size, bytes) ∈ [(0, 1), (1, 2), (2, 4), (3, 8), (4, 64)] ∧ bits w 24 40 % bytes = 0) ∨
        kind = 3 ∧ management ∧ action = 0 ∧ q.value = 0 ∧ q.argument = 0 ∧ exists_ ∨
        kind = 4 ∧ management ∧ action = 0 ∧ q.argument = 0 ∧ written ∨
        kind = 5 ∧ management ∧ index = 0 ∧ acts) ∧
  (∀ q : QueuedFrame,
    let w := q.word0
    let kind := bits w 0 4
    let unit := bits w 24 3
    let index := bits w 32 16
    let action := bits w 48 8
    let exists_ : Prop := unit = 0 ∧ index ≤ 4 ∨ unit = 1 ∧ index ≤ 15 ∨
      unit = 2 ∧ (index ≤ 23 ∨ 32 ≤ index ∧ index ≤ 55 ∨ 256 ≤ index ∧ index ≤ 279 ∨ 288 ≤ index ∧ index ≤ 311 ∨
        index = 512) ∨
      unit = 3 ∧ index ≤ 5 ∨ unit = 4 ∧ index ≤ 2 ∨
      unit = 5 ∧ (index ≤ 511 ∨ 1024 ≤ index ∧ index ≤ 1035 ∨ 1040 ≤ index ∧ index ≤ 1043 ∨
        1088 ≤ index ∧ index ≤ 1099 ∨ 1104 ≤ index ∧ index ≤ 1107) ∨
      unit = 6 ∧ index ≤ 6
    (q.stream.val = bits w 4 4 ∧ q.tag.val = bits w 8 6 ∧ q.addr.toNat = bits w 24 40 ∧ q.unit = unit ∧ q.index = index ∧
      q.action = action ∧ q.value = q.words.getD 0 0 ∧ q.argument = q.words.getD 1 0 ∧
      (q.isMgmt = true ↔ kind = 3 ∨ kind = 4 ∨ kind = 5)) ∧
    (∀ (st : Fin 16) (p : Policy) (z : Size), z.code = bits w 16 3 → (kind = 1 ∨ kind = 2) →
      q.toRequest st p = { stream := st, tag := q.tag, isWrite := kind = 2, addr := q.addr, size := z, data := q.words
                           policy := p, failure := none }) ∧
    (kind = 1 → q.row = .read) ∧ (kind = 2 → q.row = .write) ∧
    (kind = 3 → exists_ → q.row = .mgmtRead) ∧ (kind = 3 → ¬ exists_ → q.row = .malformedRefusal) ∧
    (kind = 4 →
      (unit = 0 → q.row = if index = 2 then .lineStoreControlWrite else .malformedRefusal) ∧
      (unit = 1 → q.row = if index ≤ 15 then .streamRecordWrite else .malformedRefusal) ∧
      (unit = 2 → q.row = if index ≤ 23 ∨ 32 ≤ index ∧ index ≤ 55 then .stagingWindowWrite else .malformedRefusal) ∧
      (unit = 3 → q.row = if index ≤ 5 then .noticeSourceWrite else .malformedRefusal) ∧
      (unit = 6 → q.row = if index = 1 ∨ index = 2 then .mgmtWrite else .malformedRefusal) ∧
      (unit ∉ [0, 1, 2, 3, 6] → q.row = .malformedRefusal)) ∧
    (kind = 5 →
      let acts : List ((Nat × Nat) × HeadRow) := [((0, 1), .bridgeReset), ((2, 1), .commitWindows), ((2, 2), .stagingReload),
        ((3, 1), .noticeClear), ((4, 1), .faultTake), ((5, 1), .lineClean), ((5, 2), .linePurge), ((5, 3), .lineDrop),
        ((5, 4), .storeClean), ((5, 5), .storePurge), ((6, 1), .dlinkRetrain)]
      (∀ a ∈ acts, a.1 = (unit, action) → q.row = a.2) ∧
      ((∀ a ∈ acts, a.1 ≠ (unit, action)) → q.row = .malformedRefusal)) ∧
    (kind = 0 ∨ 6 ≤ kind → q.row = .malformedRefusal)) ∧
  ∀ (w : Word) (rest : List Word),
    let q := QueuedFrame.ofWords w rest
    let kind := bits w 0 4
    let size := bits w 16 3
    let fits : Prop := kind = 1 ∧ rest = [] ∨ kind = 2 ∧ size ≤ 3 ∧ rest.length = 1 ∨
      kind = 2 ∧ size = 4 ∧ rest.length = 8 ∨ (kind = 3 ∨ kind = 4 ∨ kind = 5) ∧ rest.length = 2
    requestFrame ⟨true, w :: rest⟩ = some q ∧ requestFrame ⟨true, []⟩ = none ∧ requestFrame ⟨false, w :: rest⟩ = none ∧
    q.word0 = w ∧ (q.lengthWrong = false ↔ fits) ∧ (fits → q.words = rest)

/-! ## Windows, policies and the fault record (chapters 4 and 9) -/

/-- A READ or WRITE whose window check fails is refused by the first finding of R85, and its fault entry is logged; a NOTICE
that this makes due follows the completion (R85, R188). -/
def Obligations.WindowCheckRefuses : Prop :=
  ∀ (s : State) (st : Fin 16) (q : QueuedFrame) (x : Status) (k : FaultKind),
    (q.row = .read ∨ q.row = .write) → s.Passes q.row st q →
    (s.windows.covering (granuleOfAddr q.addr) = none ∧ x = .noWindow ∧ k = .noWindow ∨
      (∃ win, s.windows.covering (granuleOfAddr q.addr) = some win ∧ win.kind = .deny) ∧ x = .denied ∧ k = .deniedWindow ∨
      (∃ win, s.windows.covering (granuleOfAddr q.addr) = some win ∧ win.kind = .far ∧ win.isProtected = true) ∧
        q.row = .write ∧ x = .isProtected ∧ k = .protectViolation) →
    exec q.row.command s = .next (announce s ((s.answered st q x []).log
      { kind := k, stream := some st, requestTag := some q.tag, line := some (lineOfAddr q.addr), dTag := none,
        reason := none, attempts := none }))

/-- In a sorted active copy the window lookup answers the one record that covers the granule (R84), and the effective policy
follows from stream policy, ceiling and LINE-STORE control by the table of R86 and the sentence after it. -/
def Obligations.WindowLookupAndEffectivePolicy : Prop :=
  (∀ (t : WindowTable) (g : Granule) (r : WindowRecord), t.Sorted →
    (t.covering g = some r ↔ r ∈ t.active ∧ r.start ≤ g ∧ g ≤ r.last)) ∧
  (∀ c on, effectivePolicy .bypassOrdered c on = .bypassOrdered) ∧
  (∀ c on, effectivePolicy .bypass c on = .bypass) ∧
  (∀ on, effectivePolicy .writeBack .bypass on = .bypass ∧ effectivePolicy .writeThrough .bypass on = .bypass) ∧
  (∀ c, effectivePolicy .writeBack c false = .bypass ∧ effectivePolicy .writeThrough c false = .bypass) ∧
  effectivePolicy .writeBack .writeBack true = .writeBack ∧
  effectivePolicy .writeBack .writeThrough true = .writeThrough ∧
  effectivePolicy .writeThrough .writeBack true = .writeThrough ∧
  effectivePolicy .writeThrough .writeThrough true = .writeThrough

/-- A fault entry is appended and sets FAULT while fewer than 8 are held, and otherwise is discarded, counted and sets
FAULT-LOST (R180, R181); a source is set once until it is cleared, and its NOTICE becomes due when it is enabled (R184,
R185). -/
def Obligations.FaultEntriesAreLogged : Prop :=
  (∀ (s : State) (f : FaultEntry), s.faults.entries.length < 8 →
    s.log f = State.raise { s with faults := { s.faults with entries := s.faults.entries ++ [f] } } 0) ∧
  (∀ (s : State) (f : FaultEntry), 8 ≤ s.faults.entries.length →
    s.log f = State.raise { s with faults := { s.faults with
      overflow := if s.faults.overflow = 255 then 255 else s.faults.overflow + 1 } } 1) ∧
  ∀ (s : State) (k : Fin 6),
    ((s.notice k).status = true → s.raise k = s) ∧
    ((s.notice k).status = false → s.raise k = s.setNotice k { s.notice k with
      status := true
      mark := if (s.notice k).enable then .pending else .none })

/-- A PENDING NOTICE is placed with the source's number, sequence number and target as they stand, if a place is free
(R185); when an event makes NOTICEs due they are placed in ascending source number, one for each free place (R188). That a
NOTICE PENDING since an earlier event is placed in the step in which another becomes due is the model's choice (log entry 13). -/
def Obligations.DueNoticesAreAnnounced : Prop :=
  (∀ (s : State) (k : Fin 6), s.placeNotice k =
    if (s.notice k).mark = .pending ∧ s.ulink.egress.length < 64 then
      { s with
        ulink := { s.ulink with
          egress := s.ulink.egress ++ [.notice (s.notice k).target k (s.notice k).sequence] }
        notices := s.notices.set k { s.notice k with mark := .sent, sequence := (s.notice k).sequence + 1 } }
    else s) ∧
  ∀ before after : State,
    ((∀ k, (after.notice k).mark = .pending → (before.notice k).mark = .pending) → announce before after = after) ∧
    ((∃ k, (after.notice k).mark = .pending ∧ (before.notice k).mark ≠ .pending) → announce before after =
      (((((after.placeNotice 0).placeNotice 1).placeNotice 2).placeNotice 3).placeNotice 4).placeNotice 5)

/-- PLACE_NOTICE places the lowest-numbered PENDING source's NOTICE when a place is free (R185, R188). -/
def Obligations.LowestPendingNoticeIsPlaced : Prop :=
  ∀ (s : State) (k : Fin 6), s.resetN = true → s.ulink.egress.length < 64 → (s.notice k).mark = .pending →
    (∀ j < k, (s.notice j).mark ≠ .pending) →
    exec .placeNotice s = .next { s with
      ulink := { s.ulink with egress := s.ulink.egress ++ [.notice (s.notice k).target k (s.notice k).sequence] }
      notices := s.notices.set k { s.notice k with mark := .sent, sequence := (s.notice k).sequence + 1 } }

/-! ## READ and WRITE (chapters 1, 3, 5) -/

/-- The lookup of a line address examines the four ways of its set and compares the tag of each way that is not INVALID with
the address's tag: the way that matches is answered, none is absent, and nothing but the line store is looked at (R1, R5). -/
def Obligations.LineLookupExaminesTheSet : Prop :=
  ∀ (s : State) (l : LineAddr),
    let found (w : WayRef) : Prop :=
      w.set.val = l.toNat % 128 ∧ (s.line w).state ≠ .invalid ∧ (s.line w).tag.toNat = l.toNat / 128
    (s.lookup l = none ↔ ∀ w, ¬ found w) ∧ (∀ w, s.lookup l = some w → found w) ∧
    (∀ w, found w → (∀ x, found x → x = w) → s.lookup l = some w) ∧
    ∀ t : State, t.store = s.store → t.lookup l = s.lookup l

/-- A READ under a caching policy of a present line that no entry names is a hit: answered OK with the bytes read, and the
store, the tracker and every other part of the state left as they are (R14, R115). -/
def Obligations.ReadHitReturnsTheBytes : Prop :=
  ∀ (s : State) (st : Fin 16) (q : QueuedFrame) (r : Request) (w : WayRef),
    s.Reaches st q r → q.row = .read → s.entryNaming r.line = none →
    (r.policy = .writeBack ∨ r.policy = .writeThrough) → s.lookup r.line = some w →
    exec .read s = .next (s.answered st q .ok
      (if r.size = .b64 then (s.line w).data.toList
      else [(s.line w).data[wordIndex r.addr] &&& laneMask r.addr r.size]))

/-- A WRITE under a caching policy of an OWNED or MODIFIED line that no entry names is a hit: the bytes are stored, the words
touched are marked and the line is MODIFIED, and nothing but that way, the head and the completion changes (R3, R15, R16,
R115). -/
def Obligations.WriteHitStoresAndMarks : Prop :=
  ∀ (s : State) (st : Fin 16) (q : QueuedFrame) (r : Request) (w : WayRef),
    s.Reaches st q r → q.row = .write → s.entryNaming r.line = none →
    (r.policy = .writeBack ∨ r.policy = .writeThrough) → s.lookup r.line = some w →
    ((s.line w).state = .owned ∨ (s.line w).state = .modified) →
    exec .write s = .next ((s.answered st q .ok []).setLine w { s.line w with
      data := storeBytes (s.line w).data r.addr r.size r.data
      marks := (s.line w).marks ||| touched r.addr r.size
      state := .modified })

/-- A store changes exactly the bytes at and above its address up to its size, and marks exactly the words with a byte among
them (R19); a lane mask selects the lanes of the access in its word (R190). -/
def Obligations.StoredBytesAndTouchedWords : Prop :=
  ∀ (old : LineData) (a : ByteAddr) (z : Size) (data : List Word) (w : Fin 8) (i : Nat),
    a.toNat % z.bytes = 0 → i < 64 →
    let at_ := a.toNat % 64
    let byte := 8 * w.val + i / 8
    ((storeBytes old a z data)[w]).getLsbD i =
      (if at_ ≤ byte ∧ byte < at_ + z.bytes then (data.getD (if z = .b64 then w.val else 0) 0).getLsbD i
      else old[w].getLsbD i) ∧
    (touched a z).getLsbD w.val = decide (at_ < 8 * w.val + 8 ∧ 8 * w.val < at_ + z.bytes) ∧
    (z ≠ .b64 → (laneMask a z).getLsbD i = decide (a.toNat % 8 ≤ i / 8 ∧ i / 8 < a.toNat % 8 + z.bytes))

/-- A READ or WRITE whose line an entry names is parked on it, or left at the head while the entry's list is full (R52, R108,
R114); one that needs the home is refused LINK-DOWN while the D-link is not UP, or left at the head while no entry is free
(R112, R51, R108). -/
def Obligations.AccessParkedRefusedOrLeft : Prop :=
  ∀ (s : State) (st : Fin 16) (q : QueuedFrame) (r : Request), s.Reaches st q r →
    (∀ n e, s.entryNaming r.line = some n → s.entry n = some e →
      (e.parked.length < 4 → exec q.row.command s =
        .next ((s.begun st q).setEntry n (some { e with parked := e.parked ++ [r] }))) ∧
      (4 ≤ e.parked.length → exec q.row.command s =
        .next (s.setStream st { s.stream st with blocked := .entryFull e.line }))) ∧
    (∀ k, s.entryNaming r.line = none → s.work r = some k →
      (s.dlink.state ≠ .up → exec q.row.command s = .next (s.answered st q .linkDown [])) ∧
      (s.dlink.state = .up → s.freeEntry = none → exec q.row.command s =
        .next (s.setStream st { s.stream st with blocked := .noEntry })))

/-- A miss under a caching policy creates the lowest free entry, which obtains a way whose line needs no slot and issues GET-S
or GET-O under the lowest FREE tag, all in the step of the admission (R51, R9, R10, R55, R58, R59). -/
def Obligations.FetchMissIssuesInItsStep : Prop :=
  ∀ (s : State) (st : Fin 16) (q : QueuedFrame) (r : Request) (k : EntryKind) (n : Fin 12) (t : Fin 32) (v : Fin 4)
    (moves : Bool), s.Reaches st q r → s.entryNaming r.line = none → s.work r = some k → (k = .fetchS ∨ k = .fetchO) →
    s.dlink.state = .up → s.freeEntry = some n → s.freeTag = some t →
    (∀ j sl, s.slot j = some sl → sl.line = r.line → sl.kind = .flush) →
    s.chooseWay (setOf r.line) = some (v, moves) →
    let w : WayRef := ⟨setOf r.line, v⟩
    ((s.line w).state = .invalid ∨ (s.line w).state = .shared) →
    let b := (s.begun st q).setLine w { s.line w with state := .invalid, marks := 0, holder := .entry n }
    let b := if moves then b.setVictim w.set (v + 1) else b
    let b := b.setEntry n (some {
      line := r.line, kind := k, phase := .issued t, way := some w, victim := none, attempts := 1, converted := false
      epoch := s.windows.epoch, parked := [r], lastTag := some t, storedShared := false, answer := .none
      wake := false })
    exec q.row.command s = .next { b with dlink := { s.dlink with
      tags := s.dlink.tags.set t (.inUse (.entry n) s.dlink.timeout)
      tx := s.dlink.tx ++ [if k = .fetchS then .getS t r.line else .getO t r.line] } }

/-- The work that a READ or WRITE names is that of the table of section 1.7, by its kind, its effective policy and the state a
lookup of its line finds (R14 to R17). Where it names work, no entry names the line, the D-link is UP and an entry is free, its
admission creates the lowest-numbered free entry of that kind, with the request as its one parked request, after a WRITE-THROUGH
store into a SHARED line (R16, R51); the entry then takes its steps from step 1 in the same step, whatever it then waits for. A
WRITE-BACK write of a SHARED line so creates an UPGRADE entry that holds the line's way (R57) and a direct access a direct entry
that holds none; with a tag FREE either issues in the step of its admission under the lowest one (R58, R59). -/
def Obligations.NewEntriesFollowTheTable : Prop :=
  (∀ (s : State) (r : Request),
    let found : LineState := match s.lookup r.line with
      | some w => (s.line w).state
      | none => .invalid
    let miss : Prop := found = .invalid
    let caching : Prop := r.policy = .writeBack ∨ r.policy = .writeThrough
    (caching → r.isWrite = false → s.work r = if miss then some .fetchS else none) ∧
    (r.policy = .writeBack → r.isWrite = true → s.work r =
      if miss then some .fetchO else if found = .shared then some .upgrade else none) ∧
    (r.policy = .writeThrough → r.isWrite = true → s.work r =
      if miss ∨ found = .shared then some .directWrite else none) ∧
    (¬ caching → s.work r =
      if ¬ miss then some .purgeDirect else if r.isWrite = true then some .directWrite else some .directRead)) ∧
  (∀ (s : State) (n : Fin 12), s.freeEntry = some n ↔ s.entry n = none ∧ ∀ m < n, s.entry m ≠ none) ∧
  (∀ (s : State) (l : LineAddr), s.entryNaming l = none ↔ ∀ n e, s.entry n = some e → e.line ≠ l) ∧
  (∀ (s : State) (st : Fin 16) (q : QueuedFrame) (r : Request) (k : EntryKind) (n : Fin 12), s.Reaches st q r →
    s.entryNaming r.line = none → s.work r = some k → s.dlink.state = .up → s.freeEntry = some n →
    let created (b : State) (stored : Bool) : State := b.setEntry n (some {
      line := r.line, kind := k, phase := .waiting .lineInSlot, way := none, victim := none, attempts := 0
      converted := false, epoch := s.windows.epoch, parked := [r], lastTag := none, storedShared := stored
      answer := .none, wake := false })
    (k ≠ .directWrite ∨ s.lookup r.line = none →
      exec q.row.command s = .next ((created (s.begun st q) false).step1 n)) ∧
    ∀ w, k = .directWrite → s.lookup r.line = some w → exec q.row.command s = .next ((created
      ((s.begun st q).setLine w { s.line w with
        data := storeBytes (s.line w).data r.addr r.size r.data }) true).step1 n)) ∧
  ∀ (s : State) (st : Fin 16) (q : QueuedFrame) (r : Request) (n : Fin 12) (t : Fin 32), s.Reaches st q r →
    s.entryNaming r.line = none → s.dlink.state = .up → s.freeEntry = some n → s.freeTag = some t →
    (∀ j sl, s.slot j = some sl → sl.line = r.line → sl.kind = .flush) →
    let entry (k : EntryKind) (way : Option WayRef) (stored : Bool) : TrackerEntry := {
      line := r.line, kind := k, phase := .issued t, way := way, victim := none, attempts := 1, converted := false
      epoch := s.windows.epoch, parked := [r], lastTag := some t, storedShared := stored, answer := .none
      wake := false }
    let sent (b : State) (p : BridgePacket) : State := { b with dlink := { s.dlink with
      tags := s.dlink.tags.set t (.inUse (.entry n) s.dlink.timeout), tx := s.dlink.tx ++ [p] } }
    (∀ w, s.work r = some .upgrade → s.lookup r.line = some w → (∀ j, (s.line w).holder ≠ .slot j) →
      exec q.row.command s = .next (sent
        (((s.begun st q).setLine w { s.line w with holder := .entry n }).setEntry n
          (some (entry .upgrade (some w) false))) (.upgrade t r.line))) ∧
    (s.work r = some .directRead → exec q.row.command s = .next (sent
      ((s.begun st q).setEntry n (some (entry .directRead none false))) (.directRead t r.addr r.size))) ∧
    (s.work r = some .directWrite → s.lookup r.line = none → exec q.row.command s = .next (sent
      ((s.begun st q).setEntry n (some (entry .directWrite none false))) (.directWrite t r.addr r.size r.data))) ∧
    (∀ w, s.work r = some .directWrite → s.lookup r.line = some w → exec q.row.command s = .next (sent
      (((s.begun st q).setLine w { s.line w with
        data := storeBytes (s.line w).data r.addr r.size r.data }).setEntry n
          (some (entry .directWrite none true))) (.directWrite t r.addr r.size r.data)))

/-- During a bridge reset the arbiter refuses a queued head RESETTING without checks, and the reset's phase may end with the
last of them (R123, R143). -/
def Obligations.ResettingRefusalAnswersQueuedHeads : Prop :=
  ∀ (s : State) (st : Fin 16) (q : QueuedFrame), s.resetN = true → s.selectedForRefusal = some (st, q) →
    exec .resettingRefusal s = .next (s.answered st q .resetting []).advance

/-! ## Management without the engine (chapters 4, 5, 7, 8, 9) -/

/-- A MGMT-READ that passes the checks is answered OK with the value its unit and index reach, in the step of its admission,
and changes nothing else (R116, R168). The map of units and indices: the identity and capacities, the LINE-STORE control, the
U-link bad-frame counter and the engine view of GLOBAL (R171, R172); stream records, window records by copy and word, an active
record past the last reading as zero, the window epoch (R173); notice sources and the fault record (R174); probes, tracker entry
and slot views (R175, R176); the D-link's state, settings and counters (R177). That the read is taken out of its queue before it
looks is the model's choice (log entry 11). -/
def Obligations.MgmtReadReturnsTheValue : Prop :=
  (∀ (s : State) (st : Fin 16) (q : QueuedFrame), s.Passes .mgmtRead st q →
    exec .mgmtRead s = .next (s.answered st q .ok [(s.headTaken st).mgmtValue q.unit q.index])) ∧
  ∀ s : State,
    let word := s.mgmtValue
    let counter (i : Nat) (c : BitVec 16) : Prop := bits (word 6 i) 0 16 = c.toNat ∧ bits (word 6 i) 16 48 = 0
    (bits (word 0 0) 0 16 = 0x0B71 ∧ bits (word 0 0) 16 16 = 0x0612 ∧ bits (word 0 0) 32 8 = 1 ∧ bits (word 0 0) 40 24 = 0) ∧
    (∀ fv ∈ [((0, 8), 64), ((8, 8), 128), ((16, 3), 4), ((19, 5), 12), ((24, 3), 4), ((27, 6), 32), ((33, 5), 24),
      ((38, 5), 16), ((43, 6), 32), ((49, 7), 64), ((56, 4), 8), ((60, 4), 0)], bits (word 0 1) fv.1.1 fv.1.2 = fv.2) ∧
    (bits (word 0 2) 0 1 = bit s.lineStoreOn ∧ bits (word 0 2) 1 63 = 0) ∧
    (bits (word 0 3) 0 16 = s.ulink.badFrames.toNat ∧ bits (word 0 3) 16 48 = 0) ∧
    word 0 4 = engineWord s.engine ∧
    (∀ st : Fin 16, word 1 st.val = (s.stream st).word) ∧
    (∀ k : Fin 24,
      word 2 k.val = s.windows.staging[k].rangeWord ∧ word 2 (32 + k.val) = s.windows.staging[k].attributeWord ∧
      (∀ h : k.val < s.windows.active.length, word 2 (256 + k.val) = s.windows.active[k.val].rangeWord ∧
        word 2 (288 + k.val) = s.windows.active[k.val].attributeWord) ∧
      (s.windows.active.length ≤ k.val → word 2 (256 + k.val) = 0 ∧ word 2 (288 + k.val) = 0)) ∧
    (bits (word 2 512) 0 16 = s.windows.epoch.toNat ∧ bits (word 2 512) 16 48 = 0) ∧
    (∀ k : Fin 6, word 3 k.val = (s.notice k).word) ∧
    (s.faults.entries.length ≤ 8 → bits (word 4 0) 0 4 = s.faults.entries.length ∧ bits (word 4 0) 4 4 = 0 ∧
      bits (word 4 0) 8 8 = s.faults.overflow.toNat ∧ bits (word 4 0) 16 48 = 0) ∧
    (s.faults.entries = [] → word 4 1 = 0 ∧ word 4 2 = 0) ∧
    (∀ f rest, s.faults.entries = f :: rest → word 4 1 = f.firstWord ∧ word 4 2 = f.secondWord) ∧
    (∀ w : WayRef, word 5 (4 * w.set.val + w.way.val) = (s.line w).word) ∧
    (∀ n : Fin 12, word 5 (1024 + n.val) = entryFirstWord (s.entry n) ∧
      word 5 (1088 + n.val) = entrySecondWord (s.entry n)) ∧
    (∀ k : Fin 4, word 5 (1040 + k.val) = slotFirstWord (s.slot k) ∧ word 5 (1104 + k.val) = slotSecondWord (s.slot k)) ∧
    (bits (word 6 0) 0 2 = s.dlink.state.code ∧ bits (word 6 0) 2 2 = 0 ∧ bits (word 6 0) 4 1 = bit s.dlink.signal ∧
      bits (word 6 0) 5 11 = 0 ∧ bits (word 6 0) 16 16 = s.dlink.homeId.toNat ∧ bits (word 6 0) 32 32 = 0) ∧
    (bits (word 6 1) 0 8 = s.dlink.timeout.toNat ∧ bits (word 6 1) 8 56 = 0) ∧
    (bits (word 6 2) 0 4 = s.dlink.retryLimit.toNat ∧ bits (word 6 2) 4 60 = 0) ∧
    counter 3 s.dlink.badFrames ∧ counter 4 s.dlink.staleReplies ∧ counter 5 s.dlink.unknownTags ∧
    counter 6 s.dlink.timeouts

/-- The fields of the stream record, window, notice source and probe words, of the two words of a fault entry, of the two words of
a tracker entry view and of a slot view, and of the engine view, every other bit zero, an absent field and its presence mark
zero (section 10.4; R172 to R176); and the codes of kinds, phases, reasons and states. The position shown of a walk is stated where
R172 gives it: past the first pass, waiting at no way, it is a free value (log entry 8). -/
def Obligations.RecordWordsCarryTheirFields : Prop :=
  (∀ r : StreamRecord, r.outstanding.length ≤ 16 → r.queue.length ≤ 8 →
    bits r.word 0 1 = bit r.isOpen ∧ bits r.word 1 1 = bit r.manage ∧ bits r.word 2 3 = r.policy.code ∧
    bits r.word 5 3 = 0 ∧ bits r.word 8 5 = r.depth.toNat ∧ bits r.word 13 3 = 0 ∧
    bits r.word 16 5 = r.outstanding.length ∧ bits r.word 21 3 = 0 ∧ bits r.word 24 4 = r.queue.length ∧
    bits r.word 28 36 = 0) ∧
  (∀ r : WindowRecord,
    bits r.rangeWord 0 1 = bit r.inUse ∧ bits r.rangeWord 1 3 = 0 ∧ bits r.rangeWord 4 28 = r.start.toNat ∧
    bits r.rangeWord 32 28 = r.last.toNat ∧ bits r.rangeWord 60 4 = 0 ∧
    bits r.attributeWord 0 2 = r.kind.code ∧ bits r.attributeWord 2 2 = 0 ∧ bits r.attributeWord 4 2 = r.ceiling.code ∧
    bits r.attributeWord 6 2 = 0 ∧ bits r.attributeWord 8 1 = bit r.isProtected ∧ bits r.attributeWord 9 55 = 0) ∧
  (∀ r : NoticeSource,
    bits r.word 0 1 = bit r.status ∧ bits r.word 1 1 = bit r.enable ∧ bits r.word 2 2 = 0 ∧
    bits r.word 4 4 = r.target.val ∧ bits r.word 8 56 = 0) ∧
  (∀ r : LineRecord,
    bits r.word 0 27 = r.tag.toNat ∧ bits r.word 27 1 = 0 ∧ bits r.word 28 2 = r.state.code ∧ bits r.word 30 2 = 0 ∧
    bits r.word 32 8 = r.marks.toNat ∧ bits r.word 42 2 = 0 ∧ bits r.word 48 16 = 0 ∧
    (r.holder = .none → bits r.word 40 2 = 0 ∧ bits r.word 44 4 = 0) ∧
    (∀ n, r.holder = .entry n → bits r.word 40 2 = 1 ∧ bits r.word 44 4 = n.val) ∧
    (∀ k, r.holder = .slot k → bits r.word 40 2 = 2 ∧ bits r.word 44 4 = k.val)) ∧
  (∀ f : FaultEntry, (∀ a, f.attempts = some a → a ≤ 255) →
    let w := f.firstWord
    bits w 0 4 = f.kind.code ∧ bits w 4 4 = 0 ∧ bits w 8 1 = bit f.stream.isSome ∧ bits w 9 1 = bit f.requestTag.isSome ∧
    bits w 10 1 = bit f.line.isSome ∧ bits w 11 1 = bit f.dTag.isSome ∧ bits w 12 1 = bit f.reason.isSome ∧
    bits w 13 1 = bit f.attempts.isSome ∧ bits w 14 2 = 0 ∧ bits w 16 4 = (f.stream.map (·.val)).getD 0 ∧
    bits w 20 4 = 0 ∧ bits w 24 6 = (f.requestTag.map (·.val)).getD 0 ∧ bits w 30 2 = 0 ∧
    bits w 32 5 = (f.dTag.map (·.val)).getD 0 ∧ bits w 37 3 = 0 ∧ bits w 40 2 = (f.reason.map (·.code)).getD 0 ∧
    bits w 42 6 = 0 ∧ bits w 48 8 = f.attempts.getD 0 ∧ bits w 56 8 = 0 ∧
    bits f.secondWord 0 34 = (f.line.map (·.toNat)).getD 0 ∧ bits f.secondWord 34 30 = 0) ∧
  (entryFirstWord none = 0 ∧ entrySecondWord none = 0 ∧ ∀ e : TrackerEntry, e.attempts ≤ 8 → e.parked.length ≤ 4 →
    let w := entryFirstWord (some e)
    let v := entrySecondWord (some e)
    bits w 0 1 = 1 ∧ bits w 1 3 = e.kind.code ∧ bits w 6 2 = 0 ∧ bits w 11 1 = 0 ∧ bits w 12 4 = e.attempts ∧
    bits w 16 1 = bit e.converted ∧ bits w 17 3 = 0 ∧ bits w 20 3 = e.parked.length ∧ bits w 23 7 = 0 ∧
    bits w 30 34 = e.line.toNat ∧
    (∀ why, e.phase = .waiting why → bits w 4 2 = 1 ∧ bits w 8 3 = why.code ∧ bits v 20 12 = 0) ∧
    (∀ t, e.phase = .issued t → bits w 4 2 = 2 ∧ bits w 8 3 = 0 ∧ bits v 20 1 = 1 ∧ bits v 21 3 = 0 ∧ bits v 24 5 = t.val ∧
      bits v 29 3 = 0) ∧
    (e.phase = .ending → bits w 4 2 = 3 ∧ bits w 8 3 = 0 ∧ bits v 20 12 = 0) ∧
    (e.way = none → bits v 0 16 = 0) ∧
    (∀ x, e.way = some x → bits v 0 1 = 1 ∧ bits v 1 1 = 0 ∧ bits v 2 2 = x.way.val ∧ bits v 4 4 = 0 ∧
      bits v 8 7 = x.set.val ∧ bits v 15 1 = 0) ∧
    (e.victim = none → bits v 16 4 = 0) ∧
    (∀ k, e.victim = some k → bits v 16 1 = 1 ∧ bits v 17 1 = 0 ∧ bits v 18 2 = k.val) ∧
    bits v 32 16 = e.epoch.toNat ∧ bits v 48 16 = 0) ∧
  (slotFirstWord none = 0 ∧ slotSecondWord none = 0 ∧ ∀ sl : EvictionSlot, sl.attempts ≤ 255 →
    let w := slotFirstWord (some sl)
    let v := slotSecondWord (some sl)
    let tagged (t : Fin 32) : Prop := bits v 20 1 = 1 ∧ bits v 21 3 = 0 ∧ bits v 24 5 = t.val ∧ bits v 29 3 = 0
    bits w 3 1 = 0 ∧ bits w 4 2 = sl.kind.code ∧ bits w 6 1 = bit sl.stallReported ∧ bits w 7 1 = 0 ∧
    bits w 8 8 = sl.attempts ∧ bits w 16 14 = 0 ∧ bits w 30 34 = sl.line.toNat ∧
    bits v 0 2 = sl.origin.way.val ∧ bits v 2 7 = sl.origin.set.val ∧
    bits v 9 1 = (if sl.originState = .modified then 1 else 0) ∧ bits v 10 2 = 0 ∧ bits v 13 3 = 0 ∧
    bits v 32 8 = sl.mask.toNat ∧ bits v 40 24 = 0 ∧
    (∀ n, sl.state = .parked n → bits w 0 3 = 1 ∧ bits v 12 1 = 1 ∧ bits v 16 4 = n.val ∧ bits v 20 12 = 0) ∧
    (sl.state = .queued → bits w 0 3 = 2 ∧ bits v 12 8 = 0 ∧ bits v 20 12 = 0) ∧
    (∀ t, sl.state = .sending t → bits w 0 3 = 3 ∧ bits v 12 8 = 0 ∧ tagged t) ∧
    (∀ t, sl.state = .answered t → bits w 0 3 = 4 ∧ bits v 12 8 = 0 ∧ tagged t)) ∧
  (engineWord none = 0 ∧ ∀ p : Progress, p.passedOver.length ≤ 512 →
    let w := engineWord (some p)
    let isLine : Prop := p.action = .lineClean ∨ p.action = .linePurge ∨ p.action = .lineDrop
    bits w 0 4 = p.action.code ∧ bits w 4 4 = p.phase.code ∧ bits w 8 4 = p.stream.val ∧ bits w 12 6 = p.tag.val ∧
    bits w 18 2 = 0 ∧ (∀ k : Fin 4, bits w (20 + k.val) 1 = if k ∈ p.own then 1 else 0) ∧ bits w 24 6 = 0 ∧
    (isLine → bits w 30 34 = p.line.toNat) ∧
    (¬ isLine → bits w 30 2 = 0 ∧ bits w 39 1 = 0 ∧ bits w 42 6 = 0 ∧ bits w 48 10 = p.passedOver.length ∧
      bits w 58 6 = 0 ∧
      (p.phase = .firstPass ∨ p.phase = .drain ∨ p.walkWait ≠ .none →
        bits w 32 7 = p.position.set.val ∧ bits w 40 2 = p.position.way.val))) ∧
  (∀ xc ∈ [(Policy.writeBack, 0), (.writeThrough, 1), (.bypass, 2), (.bypassOrdered, 3)], xc.1.code = xc.2) ∧
  (∀ xc ∈ [(WindowKind.far, 0), (.deny, 1)], xc.1.code = xc.2) ∧
  (∀ xc ∈ [(Ceiling.writeBack, 0), (.writeThrough, 1), (.bypass, 2)], xc.1.code = xc.2) ∧
  (∀ xc ∈ [(LineState.invalid, 0), (.shared, 1), (.owned, 2), (.modified, 3)], xc.1.code = xc.2) ∧
  (∀ xc ∈ [(FaultKind.noWindow, 1), (.deniedWindow, 2), (.protectViolation, 3), (.fetchFailed, 4), (.linkDownFail, 5),
    (.replyMismatch, 6), (.homeError, 7), (.unknownTag, 8), (.writebackStalled, 9), (.dataDiscarded, 10)],
    xc.1.code = xc.2) ∧
  (∀ xc ∈ [(HomeReason.poisoned, 1), (.outOfRange, 2), (.protocol, 3)], xc.1.code = xc.2) ∧
  (∀ xc ∈ [(EntryKind.fetchS, 1), (.fetchO, 2), (.upgrade, 3), (.directRead, 4), (.directWrite, 5), (.purgeDirect, 6)],
    xc.1.code = xc.2) ∧
  (∀ xc ∈ [(Reason.lineInSlot, 1), (.noWay, 2), (.noSlot, 3), (.noTag, 4), (.slotNotSent, 5)], xc.1.code = xc.2) ∧
  (∀ xc ∈ [(SlotKind.putback, 1), (.release, 2), (.flush, 3)], xc.1.code = xc.2) ∧
  (∀ xc ∈ [(Action.lineClean, 1), (.linePurge, 2), (.lineDrop, 3), (.storeClean, 4), (.storePurge, 5), (.commit, 6),
    (.bridgeReset, 7)], xc.1.code = xc.2) ∧
  (∀ xc ∈ [(EnginePhase.waitLine, 1), (.waitSlot, 2), (.waitFree, 3), (.finishing, 4), (.firstPass, 5), (.revisit, 6),
    (.drain, 7), (.refusing, 8), (.purgeFirstPass, 9), (.purgeRevisit, 9), (.settle, 10)], xc.1.code = xc.2) ∧
  ∀ xc ∈ [(LinkState.down, 0), (.training, 1), (.up, 2), (.faulted, 3)], xc.1.code = xc.2

/-- A write of a stream record replaces its four settings together and keeps what the part keeps; a depth outside 1 to 16, a
policy code above 3, or a write that would close stream 0 or take its MANAGE right is refused INVALID-VALUE with no change
(R101). -/
def Obligations.StreamRecordWriteReplacesTheSettings : Prop :=
  ∀ (s : State) (st : Fin 16) (q : QueuedFrame) (n : Fin 16), s.Passes .streamRecordWrite st q → q.index = n.val →
    let w := q.value
    let r := (s.headTaken st).stream n
    let good : Prop := 1 ≤ bits w 8 5 ∧ bits w 8 5 ≤ 16 ∧ bits w 2 3 ≤ 3 ∧ (n = 0 → bits w 0 2 = 3)
    (∀ p : Policy, good → p.code = bits w 2 3 → exec .streamRecordWrite s =
      .next (((s.headTaken st).setStream n { r with
        isOpen := bits w 0 1 = 1, manage := bits w 1 1 = 1, policy := p, depth := BitVec.ofNat 5 (bits w 8 5)
        }).completed st q.tag .ok [])) ∧
    (¬ good → exec .streamRecordWrite s = .next (s.answered st q .invalidValue []))

/-- A write of a staging record's range word replaces in-use, start and last granule; one of its attribute word replaces kind,
ceiling and protected, or is refused INVALID-VALUE with no change where the kind or ceiling is none (R81, R173). -/
def Obligations.StagingWindowWriteReplacesOneWord : Prop :=
  ∀ (s : State) (st : Fin 16) (q : QueuedFrame) (k : Fin 24), s.Passes .stagingWindowWrite st q →
    let w := q.value
    let r := s.windows.staging[k]
    let replaced (x : WindowRecord) : State :=
      ((s.headTaken st).setWindows { s.windows with staging := s.windows.staging.set k x }).completed st q.tag .ok []
    (q.index = k.val → exec .stagingWindowWrite s = .next (replaced { r with
      inUse := bits w 0 1 = 1, start := BitVec.ofNat 28 (bits w 4 28), last := BitVec.ofNat 28 (bits w 32 28) })) ∧
    (∀ x c, q.index = 32 + k.val → WindowKind.code x = bits w 0 2 → Ceiling.code c = bits w 4 2 →
      exec .stagingWindowWrite s = .next (replaced { r with kind := x, ceiling := c, isProtected := bits w 8 1 = 1 })) ∧
    (q.index = 32 + k.val → (2 ≤ bits w 0 2 ∨ bits w 4 2 = 3) →
      exec .stagingWindowWrite s = .next (s.answered st q .invalidValue []))

/-- A write of the LINE-STORE control sets it ON or OFF and changes nothing else: no request, line, slot or entry (R87, R171).
A write of the response timeout (1 to 255 units) or the retry limit (0 to 7) replaces that setting, timers and stale windows
already started keeping their lengths; a value out of range is refused INVALID-VALUE with no change (R159, R169). -/
def Obligations.ControlAndLinkSettingsWrites : Prop :=
  (∀ (s : State) (st : Fin 16) (q : QueuedFrame), s.Passes .lineStoreControlWrite st q →
    exec .lineStoreControlWrite s =
      .next { s.answered st q .ok [] with lineStoreOn := bits q.value 0 1 = 1 }) ∧
  ∀ (s : State) (st : Fin 16) (q : QueuedFrame), s.Passes .mgmtWrite st q →
    let timeout := bits q.value 0 8
    let limit := bits q.value 0 4
    (q.index = 1 ∧ timeout ≠ 0 ∧ exec .mgmtWrite s =
        .next { s.answered st q .ok [] with dlink := { s.dlink with timeout := BitVec.ofNat 8 timeout } }) ∨
    (q.index = 2 ∧ limit ≤ 7 ∧ exec .mgmtWrite s =
        .next { s.answered st q .ok [] with dlink := { s.dlink with retryLimit := BitVec.ofNat 4 limit } }) ∨
    ((q.index = 1 ∧ timeout = 0 ∨ q.index = 2 ∧ 7 < limit) ∧
      exec .mgmtWrite s = .next (s.answered st q .invalidValue []))

/-- A write of a notice source replaces enable and target stream together. Turned on with its status set, a source that was
off becomes PENDING, and its NOTICE follows the write's own completion if a place is free; turned off, a PENDING NOTICE is
withdrawn; otherwise the mark stays (R186, R188). -/
def Obligations.NoticeSourceWriteMayMakeDue : Prop :=
  ∀ (s : State) (st : Fin 16) (q : QueuedFrame) (k : Fin 6), s.Passes .noticeSourceWrite st q → q.index = k.val →
    let n := s.notice k
    let on : Bool := bits q.value 1 1 = 1
    let target : Fin 16 := Fin.ofNat 16 (bits q.value 4 4)
    let written (m : NoticeMark) : State := (s.answered st q .ok []).setNotice k { n with
      enable := on, target := target, mark := m }
    (n.enable = false → on = true → n.mark = .none → n.status = true →
      exec .noticeSourceWrite s = .next (announce s (written .pending))) ∧
    (n.enable = true → on = false → n.mark = .pending → exec .noticeSourceWrite s = .next (written .none)) ∧
    (¬ (n.enable = false ∧ on = true ∧ n.mark = .none ∧ n.status = true) →
      ¬ (n.enable = true ∧ on = false ∧ n.mark = .pending) →
      exec .noticeSourceWrite s = .next (written n.mark))

/-- A STAGING-RELOAD replaces every staging record: by the active record of its number, and past the last by a record not in
use with its other fields at their reset values (R98). -/
def Obligations.StagingReloadCopiesTheActiveCopy : Prop :=
  ∀ (s : State) (st : Fin 16) (q : QueuedFrame), s.Passes .stagingReload st q →
    ∃ staging : Vector WindowRecord 24,
      exec .stagingReload s =
        .next { s.answered st q .ok [] with windows := { s.windows with staging := staging } } ∧
      ∀ k : Fin 24,
        (∀ h : k.val < s.windows.active.length, staging[k] = s.windows.active[k.val]) ∧
        (s.windows.active.length ≤ k.val → staging[k] = ⟨false, 0, 0, .far, .writeBack, false⟩)

/-- A NOTICE-CLEAR clears the status and the mark of every source its mask names, and keeps enable, target and sequence
number; a mask with a bit above bit 5 is refused INVALID-VALUE with no change (R187). -/
def Obligations.NoticeClearClearsTheNamedSources : Prop :=
  ∀ (s : State) (st : Fin 16) (q : QueuedFrame), s.Passes .noticeClear st q →
    (bits q.argument 6 58 ≠ 0 → exec .noticeClear s = .next (s.answered st q .invalidValue [])) ∧
    (bits q.argument 6 58 = 0 → ∃ sources : Vector NoticeSource 6,
      exec .noticeClear s = .next { s.answered st q .ok [] with notices := sources } ∧
      ∀ k : Fin 6, sources[k] = if bits q.argument k.val 1 = 1 then { s.notice k with status := false, mark := .none }
        else s.notice k)

/-- A FAULT-TAKE removes the oldest fault entry and answers with a word that says taken and how many remain; on an empty
record it changes nothing and the word is zero (R182). -/
def Obligations.FaultTakeRemovesTheOldest : Prop :=
  ∀ (s : State) (st : Fin 16) (q : QueuedFrame), s.Passes .faultTake st q →
    (s.faults.entries = [] → exec .faultTake s = .next (s.answered st q .ok [0])) ∧
    ∀ f rest, s.faults.entries = f :: rest → rest.length ≤ 7 → ∃ w : Word,
      exec .faultTake s = .next { s.answered st q .ok [w] with faults := { s.faults with entries := rest } } ∧
      bits w 0 1 = 1 ∧ bits w 1 7 = 0 ∧ bits w 8 4 = rest.length ∧ bits w 12 52 = 0

/-- A DLINK-RETRAIN by the state it finds: from UP the DOWN event and then training, from TRAINING or FAULTED with the signal
present a fresh training, from FAULTED without it DOWN, from DOWN nothing. Its completion carries the state entered (R154).
The model's choice: the DOWN event leaves a frame in progress (log entry 32), the retrain's own completion stands before that of an
action the event ends (log entry 14), and a retrain from FAULTED keeps the packets left in the transmitter (log entry 16). -/
def Obligations.RetrainByLinkState : Prop :=
  ∀ (s : State) (st : Fin 16) (q : QueuedFrame), s.Passes .dlinkRetrain st q →
    let answer (x : LinkState) : State := s.answered st q .ok [BitVec.ofNat 64 x.code]
    let trained (b : State) : State := { b with dlink := { b.dlink with
      state := .training, trainingTimer := some 10, tx := b.dlink.tx ++ [.hello] } }
    exec .dlinkRetrain s = .next (wrapUp (s.headTaken st)
      (if s.dlink.state = .up then trained (answer .training).downEvent
      else if s.dlink.state = .training ∨ s.dlink.state = .faulted ∧ s.dlink.signal = true then trained (answer .training)
      else { answer .down with dlink := { s.dlink with
        state := .down
        trainingTimer := if s.dlink.state = .faulted then none else s.dlink.trainingTimer } }))

/-! ## Actions of the maintenance engine (chapters 4 and 6) -/

/-- COMMIT-WINDOWS: BUSY while the engine is busy; INVALID-TABLE at the first in-use staging record that starts after its end
or shares a granule with one of lower index, with its index and reason; else the in-use records become the active copy in
ascending order of start granule, the epoch grows by one, and the commit takes the engine and drains (R89 to R92). What the
progress record holds of a field that the manual gives no value at the start is the model's choice (log entries 3 and 35). -/
def Obligations.CommitValidatesSwapsAndDrains : Prop :=
  ∀ (s : State) (st : Fin 16) (q : QueuedFrame), s.Passes .commitWindows st q →
    let staged (i : Fin 24) : WindowRecord := s.windows.staging[i]
    let covers (r : WindowRecord) (g : Granule) : Prop := r.start ≤ g ∧ g ≤ r.last
    let fails (i : Fin 24) (why : TableFault) : Prop :=
      (staged i).inUse = true ∧
        ((staged i).last < (staged i).start ∧ why = .startAfterEnd ∨
          ¬ (staged i).last < (staged i).start ∧ why = .overlap ∧
            ∃ j < i, (staged j).inUse = true ∧ ∃ g, covers (staged i) g ∧ covers (staged j) g)
    (s.engine ≠ none → exec .commitWindows s = .next (s.answered st q .busy [])) ∧
    (∀ i why, s.engine = none → fails i why → (∀ j < i, ∀ x, ¬ fails j x) →
      exec .commitWindows s = .next (s.answered st q .invalidTable
        [BitVec.ofNat 64 (i.val + 256 * (if why = .startAfterEnd then 1 else 2))])) ∧
    (s.engine = none → (∀ i x, ¬ fails i x) → ∃ active : List WindowRecord,
      exec .commitWindows s = .next (State.advance { s.begun st q with
        windows := { s.windows with active := active, epoch := s.windows.epoch + 1 }
        engine := some { action := .commit, stream := st, tag := q.tag, line := 0, phase := .drain, position := ⟨0, 0⟩
                         passedOver := [], own := [], purged := 0, cleaned := 0, skipped := 0, outcome := .notPresent
                         found := .invalid, walkWait := .none, wake := false } }) ∧
      active.Pairwise (fun a b => a.start < b.start) ∧
      active.Perm (s.windows.staging.toList.filter (·.inUse)))

/-- BRIDGE-RESET takes the engine in REFUSING; an action that held it is completed RESETTING first and nothing it did is
undone (R97, R142, R143). What the progress record holds of a field that the manual gives no value at the start is the model's
choice (log entries 3 and 35). -/
def Obligations.BridgeResetAbortsAndTakesTheEngine : Prop :=
  ∀ (s : State) (st : Fin 16) (q : QueuedFrame), s.Passes .bridgeReset st q →
    let taken (b : State) : State := State.advance { b with
      streams := b.streams.set st { b.stream st with outstanding := (b.stream st).outstanding ++ [q.tag] }
      engine := some { action := .bridgeReset, stream := st, tag := q.tag, line := 0, phase := .refusing, position := ⟨0, 0⟩
                       passedOver := [], own := [], purged := 0, cleaned := 0, skipped := 0, outcome := .notPresent
                       found := .invalid, walkWait := .none, wake := false } }
    (s.engine = none → exec .bridgeReset s = .next (taken (s.headTaken st))) ∧
    ∀ p, s.engine = some p →
      exec .bridgeReset s = .next (taken ((s.headTaken st).ended p.stream p.tag .resetting []))

/-- The five line actions and store walks: BUSY while the engine is busy, INVALID-VALUE for a line address over 34 bits, else
the action takes the engine, its own-slot set empty and its counts 0, a line action making its step at once and a walk starting
at set 0 way 0 (R127, R130, R136). What the progress record holds of a field that the manual gives no value at the start is the
model's choice (log entries 3 and 35). -/
def Obligations.ActionsTakeTheIdleEngine : Prop :=
  ∀ ra ∈ [(HeadRow.lineClean, Action.lineClean), (.linePurge, .linePurge), (.lineDrop, .lineDrop),
      (.storeClean, .storeClean), (.storePurge, .storePurge)],
    ∀ (s : State) (st : Fin 16) (q : QueuedFrame), s.Passes ra.1 st q →
      let isLine : Prop := ra.2 = .lineClean ∨ ra.2 = .linePurge ∨ ra.2 = .lineDrop
      let record (line : LineAddr) (phase : EnginePhase) : Progress := {
        action := ra.2, stream := st, tag := q.tag, line := line, phase := phase, position := ⟨0, 0⟩, passedOver := []
        own := [], purged := 0, cleaned := 0, skipped := 0, outcome := .notPresent, found := .invalid, walkWait := .none
        wake := false }
      (s.engine ≠ none → exec ra.1.command s = .next (s.answered st q .busy [])) ∧
      (s.engine = none → isLine → bits q.argument 34 30 ≠ 0 →
        exec ra.1.command s = .next (s.answered st q .invalidValue [])) ∧
      (s.engine = none → isLine → bits q.argument 34 30 = 0 → exec ra.1.command s =
        .next (wrapUp s ((s.begun st q).lineStep (record (BitVec.ofNat 34 (bits q.argument 0 34)) .waitLine)))) ∧
      (s.engine = none → ¬ isLine → exec ra.1.command s =
        .next { s.begun st q with engine := some (record 0 .firstPass) })

/-- The step of a line action by what it finds: NOT-PRESENT for an absent line, WAIT-LINE for a closed way, else the tables of
R131 to R133, WAIT-SLOT where a slot is needed and none is FREE (R129 to R134). LINE_ACTION_STEP makes it again when its wait
has ended; that the repeat is a step of its own which `wake` owes, and that the command does nothing otherwise, is the model's
choice (log entries 3 and 1). -/
def Obligations.LineActionTreatsWhatItFinds : Prop :=
  ∀ (s : State) (p : Progress), p.action = .lineClean ∨ p.action = .linePurge ∨ p.action = .lineDrop →
    (s.resetN = true → s.engine = some p →
      exec .lineActionStep s = .next (if (p.phase = .waitLine ∨ p.phase = .waitSlot) ∧ p.wake = true then
        wrapUp s (s.lineStep p) else s)) ∧
    (s.lookup p.line = none → s.lineStep p = s.finish { p with outcome := .notPresent, found := .invalid }) ∧
    ∀ w, s.lookup p.line = some w →
      let r := s.line w
      let closed : Prop := r.holder ≠ .none ∨ ∃ n e, s.entry n = some e ∧ e.line = p.line
      let owned : Prop := r.state = .owned ∨ r.state = .modified
      let outcome : LineOutcome := match p.action with
        | .lineClean => .cleaned
        | .linePurge => .purged
        | _ => .dropped
      let ready (b : State) (o : LineOutcome) : State := b.finish { p with outcome := o, found := r.state }
      let needs : Prop := if p.action = .lineClean then r.state = .modified else owned
      (closed → s.lineStep p =
        { s with engine := some { p with phase := .waitLine, position := w, wake := false } }) ∧
      (¬ closed → ¬ needs → s.lineStep p = if p.action = .lineClean then ready s .unchanged
        else ready (s.setLine w { r with state := .invalid, marks := 0 }) outcome) ∧
      (¬ closed → needs → s.freeSlot = none →
        s.lineStep p = { s with engine := some { p with phase := .waitSlot, wake := false } }) ∧
      ∀ k, ¬ closed → needs → s.freeSlot = some k →
        let kind : SlotKind := if p.action = .lineClean then .flush
          else if p.action = .linePurge ∧ r.state = .modified then .putback else .release
        let b : State := { s with engine := some { p with
          phase := .waitFree, own := [k], outcome := outcome, found := r.state, wake := false } }
        let b := b.setSlot k (some {
          state := .queued, kind := kind, line := p.line, mask := if kind = .release then 0 else r.marks
          data := if kind = .release then Vector.replicate 8 0 else r.data, origin := w, originState := r.state
          attempts := 0, stallReported := false })
        let b := b.setLine w (if p.action = .lineClean then { r with state := .owned, marks := 0, holder := .slot k }
          else { r with state := .invalid, marks := 0 })
        let b := if p.action = .lineDrop ∧ r.state = .modified then b.log {
          kind := .dataDiscarded, stream := some p.stream, requestTag := some p.tag, line := some p.line
          dTag := none, reason := none, attempts := none } else b
        s.lineStep p = b.queueSlot k

/-- A walk visits the ways in order, passes over the closed ones, and revisits those in their order once: a way still closed
is skipped, or waited for by a reset purge. After the last it waits for its slots, or a reset purge settles (R129, R136,
R139, R140, R145). The model's choice: a visit that waited is repeated in a step of its own, which `walkWait` and `wake` gate
(log entry 3); a way a revisit waits at stays at the head of the list (log entry 21); a reset purge goes from its revisit to
SETTLE without WAIT-FREE (log entry 19). -/
def Obligations.WalksVisitInOrderAndRevisitOnce : Prop :=
  (∀ (s : State) (p : Progress), s.resetN = true → s.engine = some p → p.walkWait = .none ∨ p.wake = true →
    (p.phase = .firstPass ∨ p.phase = .purgeFirstPass → exec .walkVisit s = .next (wrapUp s
      (if s.closed p.position then
        { s with engine := some (Progress.moveOn { p with passedOver := p.passedOver ++ [p.position] }) }
      else s.visitOpen p p.position Progress.moveOn))) ∧
    ∀ w rest, (p.phase = .revisit ∨ p.phase = .purgeRevisit) → p.passedOver = w :: rest →
      exec .walkRevisit s = .next (wrapUp s
        (if s.closed w = false then s.visitOpen p w Progress.dropHead
        else if p.action = .bridgeReset then
          { s with engine := some { p with position := w, walkWait := .opening, wake := false } }
        else { s with engine := some (Progress.dropHead { p with skipped := p.skipped + 1 }) }))) ∧
  (∀ (s : State) (w : WayRef), s.closed w = true ↔ (s.line w).holder ≠ .none ∨
    (s.line w).state ≠ .invalid ∧ ∃ n e, s.entry n = some e ∧ e.line = lineAt (s.line w).tag w.set) ∧
  ∀ p : Progress,
    let last (b : Progress) : Progress := { b with
      phase := if p.action = .bridgeReset then .settle else .waitFree, walkWait := .none, wake := false }
    (p.position.way ≠ 3 → p.moveOn = { p with
      position := ⟨p.position.set, p.position.way + 1⟩, walkWait := .none, wake := false }) ∧
    (p.position.way = 3 → p.position.set ≠ 127 → p.moveOn = { p with
      position := ⟨p.position.set + 1, 0⟩, walkWait := .none, wake := false }) ∧
    (p.position = ⟨127, 3⟩ → p.passedOver = [] → p.moveOn = last p) ∧
    (p.position = ⟨127, 3⟩ → p.passedOver ≠ [] → p.moveOn = { p with
      phase := if p.action = .bridgeReset then .purgeRevisit else .revisit, walkWait := .none, wake := false }) ∧
    (∀ w, p.passedOver = [w] → p.dropHead = last { p with passedOver := [] }) ∧
    ∀ w x rest, p.passedOver = w :: x :: rest → p.dropHead = { p with
      passedOver := x :: rest, walkWait := .none, wake := false }

/-- What a walk does at an open way: nothing to an INVALID or kept line, else a clean or a purge by the tables of R93 and R137,
waiting at the way where that needs a slot and none is FREE (R93, R137, R138). -/
def Obligations.WalkTreatsAnOpenWay : Prop :=
  ∀ (s : State) (p : Progress) (w : WayRef) (next : Progress → Progress),
    p.action = .storeClean ∨ p.action = .storePurge ∨ p.action = .commit ∨ p.action = .bridgeReset →
    let r := s.line w
    let win := s.windows.covering (granuleOfLine (lineAt r.tag w.set))
    let purges : Prop := p.action = .storePurge ∨ p.action = .bridgeReset ∨
      p.action = .commit ∧ ∀ x, win = some x → x.kind = .deny ∨ x.ceiling = .bypass
    let cleans : Prop := r.state = .modified ∧ (p.action = .storeClean ∨
      p.action = .commit ∧ ∃ x, win = some x ∧ x.kind = .far ∧ x.ceiling = .writeThrough)
    let counted : Progress := if p.action = .bridgeReset then p else { p with purged := p.purged + 1 }
    let owned : Prop := r.state = .owned ∨ r.state = .modified
    let waiting : State := { s with engine := some { p with position := w, walkWait := .slot, wake := false } }
    (r.state = .invalid ∨ ¬ purges ∧ ¬ cleans → s.visitOpen p w next = { s with engine := some (next p) }) ∧
    (r.state = .shared → purges → s.visitOpen p w next =
      State.setLine { s with engine := some (next counted) } w { r with state := .invalid, marks := 0 }) ∧
    (cleans ∨ owned ∧ purges → s.freeSlot = none → s.visitOpen p w next = waiting) ∧
    ∀ k, s.freeSlot = some k →
      let slot (kind : SlotKind) : EvictionSlot := {
        state := .queued, kind := kind, line := lineAt r.tag w.set, mask := if kind = .release then 0 else r.marks
        data := if kind = .release then Vector.replicate 8 0 else r.data, origin := w, originState := r.state
        attempts := 0, stallReported := false }
      let filled (b : Progress) (kind : SlotKind) (line : LineRecord) : State :=
        ((State.setSlot { s with engine := some (next { b with own := p.own.insert k }) } k (some (slot kind))).setLine w
          line).queueSlot k
      (cleans → s.visitOpen p w next = filled { p with cleaned := p.cleaned + 1 } .flush
        { r with state := .owned, marks := 0, holder := .slot k }) ∧
      (owned → purges → s.visitOpen p w next = filled counted (if r.state = .modified then .putback else .release)
        { r with state := .invalid, marks := 0 })

/-- The phases that end by themselves, each in the step that makes it possible: WAIT-FREE, the DRAIN of a commit, and REFUSING,
DRAIN and SETTLE of a bridge reset with CLEAR; and the opening that a waiting action is told of. `wrapUp` is these two and
then the NOTICEs that became due (R92, R128, R130, R135, R139, R140, R143 to R147). The model's choice: an opening sets `wake`
(log entry 3), WAIT-LINE ends with it whatever then stands in the way (log entry 18), and CLEAR comes before the NOTICEs that
the event made due (log entry 33). -/
def Obligations.EnginePhasesEndThemselves : Prop :=
  ∀ s : State,
    (∀ b : State, wrapUp b s = announce b s.noteOpening.advance) ∧
    (s.engine = none → s.noteOpening = s ∧ s.advance = s) ∧
    ∀ p, s.engine = some p →
      let idle : Prop := ∀ n, s.entry n = none
      let purge : State := { s with engine := some { p with
        phase := .purgeFirstPass, position := ⟨0, 0⟩, passedOver := [], walkWait := .none, wake := false } }
      (s.noteOpening = if (p.phase = .waitLine ∨ p.walkWait = .opening) ∧ s.closed p.position = false then
        { s with engine := some { p with wake := true } } else s) ∧
      (p.phase = .waitFree → s.advance = if p.own = [] then s.finish p else s) ∧
      (p.phase = .refusing → (∃ st, (s.stream st).queue ≠ []) → s.advance = s) ∧
      (p.phase = .refusing → (∀ st, (s.stream st).queue = []) →
        (idle → s.advance = purge) ∧
        (¬ idle → s.advance = { s with engine := some { p with phase := .drain } })) ∧
      (p.phase = .drain → p.action = .bridgeReset → (idle → s.advance = purge) ∧ (¬ idle → s.advance = s)) ∧
      (p.phase = .drain → p.action ≠ .bridgeReset →
        ((∀ n e, s.entry n = some e → e.epoch = s.windows.epoch) →
          s.advance = { s with engine := some { p with phase := .firstPass } }) ∧
        ((∃ n e, s.entry n = some e ∧ e.epoch ≠ s.windows.epoch) → s.advance = s)) ∧
      (p.phase = .settle → (∀ k, s.slot k = none) → s.advance = State.finish { s with
        store := State.reset.store, windows := State.reset.windows, lineStoreOn := true, arbiter := 0
        streams := Vector.ofFn fun st => { State.reset.stream st with
          outstanding := if st = p.stream then [p.tag] else [], queue := (s.stream st).queue }
        ulink := { s.ulink with badFrames := 0 }
        dlink := { s.dlink with
          timeout := 16, retryLimit := 2, tags := State.reset.dlink.tags, badFrames := 0, staleReplies := 0
          unknownTags := 0, timeouts := 0 }
        faults := State.reset.faults, notices := State.reset.notices } p) ∧
      (p.phase = .settle → (∃ k, s.slot k ≠ none) → s.advance = s) ∧
      (p.phase ∉ [EnginePhase.waitFree, .refusing, .drain, .settle] → s.advance = s)

/-- A finished action places its completion, its tag leaves its stream's set and the engine is IDLE; without a free place it
waits in FINISHING for PLACE_ACTION_COMPLETION. The completion carries a line action's outcome and the state found, a walk's
three counts, nothing for a bridge reset; and the codes of a line action's outcome (section 10.2; R95, R128, R135, R140, R148). -/
def Obligations.FinishedActionsReportAndFreeTheEngine : Prop :=
  ∀ (s : State) (p : Progress), p.purged ≤ 512 → p.cleaned ≤ 512 → p.skipped ≤ 512 →
    ∃ words : List Word,
      (s.ulink.egress.length < 64 →
        s.finish p = { s.ended p.stream p.tag .ok words with engine := none } ∧
        (s.resetN = true → s.engine = some p → p.phase = .finishing → exec .placeActionCompletion s =
          .next { s.ended p.stream p.tag .ok words with engine := none })) ∧
      (64 ≤ s.ulink.egress.length → s.finish p = { s with engine := some { p with phase := .finishing } }) ∧
      (p.action = .bridgeReset → words = []) ∧
      (p.action = .lineClean ∨ p.action = .linePurge ∨ p.action = .lineDrop → ∃ w, words = [w] ∧
        bits w 0 3 = p.outcome.code ∧ bits w 3 1 = 0 ∧ bits w 4 2 = p.found.code ∧ bits w 6 58 = 0) ∧
      (p.action = .storeClean ∨ p.action = .storePurge ∨ p.action = .commit → ∃ w, words = [w] ∧
        bits w 0 10 = p.purged ∧ bits w 10 6 = 0 ∧ bits w 16 10 = p.cleaned ∧ bits w 26 6 = 0 ∧
        bits w 32 10 = p.skipped ∧ bits w 42 22 = 0) ∧
      ∀ xc ∈ [(LineOutcome.notPresent, 1), (.unchanged, 2), (.cleaned, 3), (.purged, 4), (.dropped, 5)], xc.1.code = xc.2

/-! ## Tracker entries (chapters 1 and 3) -/

/-- One service of an ENDING entry's front request, given an egress place: by its failure mark, by the reply that answered it,
or by replay, a hit now or a turn of the entry. A served request leaves the list, ENTRY-FULL marks for the line are lifted, and
the entry frees with its last request, releasing its way and lifting every mark (R62, R63, R64, R108). The model's choice: each
service is a step of its own (log entry 26), and a turn keeps the tag of the entry's last attempt (log entry 12). -/
def Obligations.ParkedRequestsAreServed : Prop :=
  ∀ (s : State) (n : Fin 12) (e : TrackerEntry) (r : Request) (rest : List Request),
    s.resetN = true → s.ulink.egress.length < 64 → s.entry n = some e → e.phase = .ending → e.parked = r :: rest →
    let served (b : State) (x : Status) (words : List Word) : State :=
      let b := b.ended r.stream r.tag x words
      let b := { b with streams := b.streams.map fun z =>
        if z.blocked = .entryFull e.line then { z with blocked := .clear } else z }
      let freed : State := match e.way with
        | some w => if (b.line w).holder = .entry n then b.setLine w { b.line w with holder := .none } else b
        | none => b
      if rest = [] then { freed.setEntry n none with streams := b.streams.map fun z => { z with blocked := .clear } }
      else b.setEntry n (some { e with parked := rest, answer := .none })
    let answer (t : State) : Prop := exec (.serveParkedRequest n) s = .next (wrapUp s t)
    (r.failure = some .failed → answer (served s .failed [])) ∧
    (r.failure = some .linkDown → answer (served s .linkDown [])) ∧
    (∀ words, r.failure = none → e.answer = .wordData words → answer (served s .ok words)) ∧
    (r.failure = none → e.answer = .done → answer (served s .ok [])) ∧
    (∀ w, r.failure = none → e.answer = .none → s.work r = none → s.lookup r.line = some w → answer
      (if r.isWrite then served (s.setLine w { s.line w with
          data := storeBytes (s.line w).data r.addr r.size r.data
          marks := (s.line w).marks ||| touched r.addr r.size
          state := .modified }) .ok []
      else served s .ok (readWords (s.line w).data r.addr r.size))) ∧
    ∀ k, r.failure = none → e.answer = .none → s.work r = some k →
      let turned (b : State) (way : Option WayRef) (stored : Bool) : State := (b.setEntry n (some { e with
        kind := k, phase := .waiting .lineInSlot, way := way, attempts := 0, converted := false
        storedShared := stored, answer := .none, wake := false })).step1 n
      let unheld (b : State) : State := match e.way with
        | some w => if (b.line w).holder = .entry n then b.setLine w { b.line w with holder := .none } else b
        | none => b
      ((k = .fetchS ∨ k = .fetchO ∨ k = .upgrade) → answer (turned s e.way false)) ∧
      ((k = .directRead ∨ k = .purgeDirect ∨ k = .directWrite ∧ s.lookup r.line = none) →
        answer (turned (unheld s) none false)) ∧
      ∀ w, k = .directWrite → s.lookup r.line = some w → answer (turned
        (unheld (s.setLine w { s.line w with data := storeBytes (s.line w).data r.addr r.size r.data })) none true)

/-- Victim choice: the lowest open INVALID way, else the first unheld way from the victim pointer upward. A way that takes an
OWNED or MODIFIED line's place needs a FREE slot; without a way or a slot the entry waits and nothing changes; the pointer
moves only past a way that the second step picked (R9, R10, R11, R55). VICTIM_CHOICE repeats it, in a step of its own that after
NO-SLOT `wake` gates: that is the model's choice (log entry 3). -/
def Obligations.VictimChoiceTakesEffectWhole : Prop :=
  ∀ (s : State) (n : Fin 12) (e : TrackerEntry), s.entry n = some e →
    let set := setOf e.line
    let line (v : Fin 4) : LineRecord := s.line ⟨set, v⟩
    let empty (v : Fin 4) : Prop := (line v).holder = .none ∧ (line v).state = .invalid
    let picks (v : Fin 4) (moves : Bool) : Prop :=
      moves = false ∧ empty v ∧ (∀ u < v, ¬ empty u) ∨
        moves = true ∧ (∀ u, ¬ empty u) ∧ ∃ i : Fin 4, v = s.victim set + i ∧ (line v).holder = .none ∧
          ∀ j < i, (line (s.victim set + j)).holder ≠ .none
    let waits (why : Reason) : State := s.setEntry n (some { e with phase := .waiting why, wake := false })
    (s.resetN = true → (e.kind = .fetchS ∨ e.kind = .fetchO) →
      (e.phase = .waiting .noWay ∨ e.phase = .waiting .noSlot ∧ e.wake = true) →
      exec (.victimChoice n) s = .next (wrapUp s (s.victimStep n))) ∧
    (∀ v moves, s.chooseWay set = some (v, moves) ↔ picks v moves) ∧
    ((∀ v, (line v).holder ≠ .none) → s.victimStep n = waits .noWay) ∧
    ∀ v moves, picks v moves →
      let owned : Prop := (line v).state = .owned ∨ (line v).state = .modified
      let taken (b : State) : State :=
        let b := b.setLine ⟨set, v⟩ { line v with state := .invalid, marks := 0, holder := .entry n }
        if moves then b.setVictim set (v + 1) else b
      (¬ owned → s.victimStep n =
        ((taken s).setEntry n (some { e with way := some ⟨set, v⟩, wake := false })).step4 n) ∧
      (owned → s.freeSlot = none → s.victimStep n = waits .noSlot) ∧
      ∀ k, owned → s.freeSlot = some k → s.victimStep n =
        ((taken (s.setSlot k (some {
            state := .parked n, kind := if (line v).state = .modified then .putback else .release
            line := lineAt (line v).tag set, mask := if (line v).state = .modified then (line v).marks else 0
            data := (line v).data, origin := ⟨set, v⟩, originState := (line v).state, attempts := 0
            stallReported := false }))).setEntry n
          (some { e with way := some ⟨set, v⟩, victim := some k, wake := false })).step4 n

/-- The steps of an entry before it issues: LINE-IN-SLOT while a slot carries its line, an UPGRADE's hold, and the eviction step
of a PURGE-DIRECT entry, which waits for the slot it needs and for the slot it filled (R17, R53, R56, R57). EVICTION_STEP
repeats the eviction step. The model's choice: the repeat is a step of its own that `wake` owes (log entry 3), and a FLUSH slot
blocks step 1 by the holder field of the line's way (log entry 17) and, where its way no longer has the line, not at all, against
R68's sentence that one slot and one way carry a line (log entry 36). -/
def Obligations.StepsBeforeIssue : Prop :=
  ∀ (s : State) (n : Fin 12) (e : TrackerEntry), s.entry n = some e →
    let stuck : Prop := (∃ k sl, s.slot k = some sl ∧ sl.line = e.line ∧ sl.kind ≠ .flush) ∨
      (e.kind = .upgrade ∨ e.kind = .purgeDirect) ∧ ∃ w k, s.lookup e.line = some w ∧ (s.line w).holder = .slot k
    let waits (b : State) (why : Reason) : State := b.setEntry n (some { e with phase := .waiting why, wake := false })
    (stuck → s.step1 n = waits s .lineInSlot) ∧
    (¬ stuck →
      (∀ w, e.kind = .upgrade → s.lookup e.line = some w → s.step1 n =
        ((s.setLine w { s.line w with holder := .entry n }).setEntry n (some { e with way := some w })).step4 n) ∧
      ((e.kind = .directRead ∨ e.kind = .directWrite) → s.step1 n = s.step4 n) ∧
      ((e.kind = .fetchS ∨ e.kind = .fetchO) →
        s.step1 n = if e.way = none then s.victimStep n else s.step4 n) ∧
      (e.kind = .purgeDirect → s.step1 n = s.evictStep n)) ∧
    (s.resetN = true → e.kind = .purgeDirect → e.phase = .waiting .noSlot → e.wake = true →
      exec (.evictionStep n) s =
        .next (wrapUp s (if s.lookup e.line = none then s.step1 n else s.evictStep n))) ∧
    (s.lookup e.line = none → s.evictStep n = s.step4 n) ∧
    ∀ w, s.lookup e.line = some w →
      let r := s.line w
      let emptied (b : State) : State := b.setLine w { r with state := .invalid, marks := 0 }
      (r.state = .shared → s.evictStep n = (emptied s).step4 n) ∧
      ((r.state = .owned ∨ r.state = .modified) → s.freeSlot = none → s.evictStep n = waits s .noSlot) ∧
      ∀ k, (r.state = .owned ∨ r.state = .modified) → s.freeSlot = some k → s.evictStep n =
        (waits (emptied (s.setSlot k (some {
          state := .queued, kind := if r.state = .modified then .putback else .release, line := e.line
          mask := if r.state = .modified then r.marks else 0
          data := if r.state = .modified then r.data else Vector.replicate 8 0, origin := w, originState := r.state
          attempts := 0, stallReported := false }))) .slotNotSent).queueSlot k

/-- Step 4 and the sending of a slot: with the D-link UP the lowest FREE tag is taken, its response timer starts at the timeout
then set, and the packet of the sender's kind joins the transmitter; without a FREE tag an entry waits NO-TAG and a slot stays
QUEUED; with the link not UP an entry fails with LINK-DOWN. A slot past the retry limit reports once. ENTRY_ISSUE and
SLOT_SEND ask again, and an entry that waited for a slot's sending goes on (R24 to R27, R56, R58, R59, R71, R74, R155,
R157). -/
def Obligations.TagsAreTakenLowestFirst : Prop :=
  (∀ (s : State) (t : Fin 32), s.freeTag = some t ↔ s.tag t = .free ∧ ∀ u < t, s.tag u ≠ .free) ∧
  (∀ (s : State) (n : Fin 12) (e : TrackerEntry), s.entry n = some e →
    (s.resetN = true → e.phase = .waiting .noTag → exec (.entryIssue n) s = .next (wrapUp s (s.step4 n))) ∧
    (s.dlink.state ≠ .up → s.step4 n = s.failFinal n .linkDown none) ∧
    (s.dlink.state = .up → s.freeTag = none →
      s.step4 n = s.setEntry n (some { e with phase := .waiting .noTag, wake := false })) ∧
    ∀ t r rest, s.dlink.state = .up → s.freeTag = some t → e.parked = r :: rest →
      let read : BridgePacket := .directRead t r.addr r.size
      let write : BridgePacket := .directWrite t r.addr r.size r.data
      let p : BridgePacket := match e.kind with
        | .fetchS => .getS t e.line
        | .fetchO => .getO t e.line
        | .upgrade => if e.converted then .getO t e.line else .upgrade t e.line
        | .directRead => read
        | .directWrite => write
        | .purgeDirect => if r.isWrite then write else read
      s.step4 n = { s.setEntry n (some {
          e with phase := .issued t, attempts := e.attempts + 1, lastTag := some t }) with
        dlink := { s.dlink with
          tags := s.dlink.tags.set t (.inUse (.entry n) s.dlink.timeout), tx := s.dlink.tx ++ [p] } }) ∧
  (∀ (s : State) (k : Fin 4) (sl : EvictionSlot), s.slot k = some sl → sl.state = .queued →
    (s.resetN = true → s.dlink.state = .up → exec (.slotSend k) s = .next (wrapUp s (s.queueSlot k))) ∧
    s.queueSlot k = (s.askTag k).endSlotNotSent ∧
    ((s.dlink.state ≠ .up ∨ s.freeTag = none) → s.askTag k = s) ∧
    ∀ t, s.dlink.state = .up → s.freeTag = some t →
      let attempts := min 255 (sl.attempts + 1)
      let stalls : Prop := sl.stallReported = false ∧ 1 + s.dlink.retryLimit.toNat < attempts
      let p : BridgePacket := match sl.kind with
        | .putback => .putback t sl.line sl.mask sl.data
        | .release => .release t sl.line
        | .flush => .flush t sl.line sl.mask sl.data
      let sent (reported : Bool) : State := { s.setSlot k (some { sl with
          state := .sending t, attempts := attempts, stallReported := reported }) with
        dlink := { s.dlink with
          tags := s.dlink.tags.set t (.inUse (.slot k) s.dlink.timeout), tx := s.dlink.tx ++ [p] } }
      (stalls → s.askTag k = ((sent true).log {
        kind := .writebackStalled, stream := none, requestTag := none, line := some sl.line, dTag := some t
        reason := none, attempts := some attempts }).raise 2) ∧
      (¬ stalls → s.askTag k = sent sl.stallReported)) ∧
  ∀ s : State,
    let due (n : Fin 12) : Prop := ∃ e, s.entry n = some e ∧ e.phase = .waiting .slotNotSent ∧
      ∀ k sl, s.slot k = some sl → sl.line = e.line → sl.state ≠ .queued
    ((∀ n, ¬ due n) → s.endSlotNotSent = s) ∧
    ∀ n, s.dlink.state = .up → due n → (∀ m, m ≠ n → ¬ due m) → s.endSlotNotSent = s.step4 n

/-- A final failure, whole: one fault entry about the first parked request, the way released (INVALID for a fetch), bytes stored
into a line still SHARED given up with the line, every parked request marked, the entry ENDING without a tag, and a PARKED
victim back in the way it came from (R13, R16, R65, R66, R70). The model's choice: the fault entry names the tag of the last
attempt the entry made, of whatever kind (log entry 12), and the converted mark ends here (log entry 30). -/
def Obligations.FinalFailureIsTakenWhole : Prop :=
  ∀ (s : State) (n : Fin 12) (e : TrackerEntry) (mark : FailMark) (reason : Option HomeReason), s.entry n = some e →
    let b := (s.log {
      kind := if mark = .failed then .fetchFailed else .linkDownFail
      stream := e.parked.head?.map (·.stream), requestTag := e.parked.head?.map (·.tag), line := some e.line
      dTag := e.lastTag, reason := reason, attempts := some e.attempts }).setEntry n (some { e with
        phase := .ending, way := none, victim := none, converted := false, answer := .none, storedShared := false
        parked := e.parked.map fun r => { r with failure := some mark } })
    let released (w : WayRef) : State := b.setLine w (if e.kind = .fetchS ∨ e.kind = .fetchO then
      { s.line w with state := .invalid, marks := 0, holder := .none } else { s.line w with holder := .none })
    (e.way = none → e.victim = none → e.storedShared = false → s.failFinal n mark reason = b) ∧
    (∀ w, e.way = some w → e.victim = none → e.storedShared = false → s.failFinal n mark reason = released w) ∧
    (∀ w k sl m, e.way = some w → e.victim = some k → e.storedShared = false → s.slot k = some sl →
      sl.state = .parked m → s.failFinal n mark reason =
        ((released w).setLine sl.origin {
          tag := tagOf sl.line, state := sl.originState, marks := sl.mask, data := sl.data, holder := .none }).releaseSlot k) ∧
    ∀ w, e.way = none → e.victim = none → e.storedShared = true → s.lookup e.line = some w →
      s.failFinal n mark reason = if (s.line w).state = .shared then
        b.setLine w { s.line w with state := .invalid, marks := 0 } else b

/-! ## Replies, failed attempts and recalls (chapters 2, 3, 7) -/

/-- A fitting reply frees its tag and ends the entry's work: the line installed into the way the entry holds, in the state and
with the data the reply gives and its marks clear, or a direct access answered; the PARKED victim's slot QUEUED and sent; the
entry ENDING (R12, R28, R29, R30, R61, R156). That the step ends there, the services of the parked requests being steps of their
own, is the model's choice (log entry 26). -/
def Obligations.FittingRepliesEndTheWork : Prop :=
  ∀ (s : State) (a : Arrival) (p : HomePacket) (rest : List Frame) (t : Fin 32) (n : Fin 12) (e : TrackerEntry)
    (r : Request) (more : List Request),
    s.Replies a p rest t (.entry n) → s.entry n = some e → e.parked = r :: more →
    let b := s.replyTaken a rest t
    let ends (b : State) (x : Answer) : Prop :=
      let b := b.setEntry n (some { e with phase := .ending, victim := none, answer := x })
      (e.victim = none → exec (p.command a) s = .next (wrapUp s b)) ∧
      ∀ k sl m, e.victim = some k → s.slot k = some sl → sl.state = .parked m → exec (p.command a) s =
        .next (wrapUp s ((b.setSlot k (some { sl with state := .queued })).queueSlot k))
    let installed (w : WayRef) (state : LineState) (words : LineData) : State := b.setLine w { s.line w with
      tag := tagOf e.line, state := state, marks := 0, data := words }
    let reads : Prop := e.kind = .directRead ∨ e.kind = .purgeDirect ∧ r.isWrite = false
    let writes : Prop := e.kind = .directWrite ∨ e.kind = .purgeDirect ∧ r.isWrite = true
    (∀ w ws, e.way = some w → p = .dataS t e.line ws → e.kind = .fetchS → ends (installed w .shared ws) .none) ∧
    (∀ w ws, e.way = some w → p = .dataO t e.line ws →
      (e.kind = .fetchS ∨ e.kind = .fetchO ∨ e.kind = .upgrade ∧ e.converted = true) →
      ends (installed w .owned ws) .none) ∧
    (∀ w, e.way = some w → p = .grant t e.line → e.kind = .upgrade → e.converted = false →
      ends (installed w .owned (s.line w).data) .none) ∧
    (∀ ws, p = .wordData t r.size.code ws → reads → ends b (.wordData (laneWords ws r.addr r.size))) ∧
    (p = .done t → writes → ends b .done)

/-- What ends a slot's attempt: a DONE frees the slot; a REFUSED, an ERROR or a mismatched reply frees an ANSWERED slot and makes
a SENDING one QUEUED again, asking for a tag, a mismatch and an ERROR logging their fault entries (R30 to R35, R72, R73). What
the freeing of a slot does to the way a FLUSH held, to the entries that wait and to the engine (R53 to R56, R68, R134,
R138, R140). The model's choice: a freed slot sets `wake` and the repeats it owes are steps of their own (log entry 3), and an
ended LINE-IN-SLOT wait leaves the entry ENDING with no service taken (log entry 26); and a slot whose attempt failed asks for its
next tag in the same step, before any other waiter (log entry 25). -/
def Obligations.RepliesToSlots : Prop :=
  (∀ (s : State) (a : Arrival) (p : HomePacket) (rest : List Frame) (t : Fin 32) (k : Fin 4) (sl : EvictionSlot),
    s.Replies a p rest t (.slot k) → s.slot k = some sl →
    let b := s.replyTaken a rest t
    let logged (kind : FaultKind) (reason : Option HomeReason) : State := b.log {
      kind := kind, stream := none, requestTag := none, line := some sl.line, dTag := some t, reason := reason
      attempts := some sl.attempts }
    let fails (b : State) : Prop :=
      (sl.state = .sending t → exec (p.command a) s =
        .next (wrapUp s ((b.setSlot k (some { sl with state := .queued })).queueSlot k))) ∧
      (sl.state = .answered t → exec (p.command a) s = .next (wrapUp s (b.releaseSlot k)))
    (p = .done t → exec (p.command a) s = .next (wrapUp s (b.releaseSlot k))) ∧
    (p = .refused t → fails b) ∧
    (∀ reason, p = .error t reason → fails (logged .homeError (some reason))) ∧
    ((∃ l ws, p = .dataS t l ws) ∨ (∃ l ws, p = .dataO t l ws) ∨ (∃ l, p = .grant t l) ∨ (∃ z ws, p = .wordData t z ws) →
      fails (logged .replyMismatch none))) ∧
  ∀ (s : State) (k : Fin 4) (sl : EvictionSlot), s.slot k = some sl →
    let w := sl.origin
    let b := s.setSlot k none
    let b := if sl.kind = .flush ∧ (s.line w).holder = .slot k then b.setLine w { s.line w with holder := .none } else b
    ∃ entries : Vector (Option TrackerEntry) 12,
      s.releaseSlot k = { b with
        entries := entries
        engine := s.engine.map fun p => { p with
          own := p.own.filter (· != k), wake := p.wake || p.phase == .waitSlot || p.walkWait == .slot } } ∧
      ∀ n : Fin 12,
        (s.entry n = none → entries[n] = none) ∧
        ∀ e, s.entry n = some e → entries[n] = some
          (if e.phase = .waiting .lineInSlot ∧ e.line = sl.line ∧ b.lineInSlot e = false then { e with phase := .ending }
          else if e.phase = .waiting .noSlot then { e with wake := true } else e)

/-- A failed attempt of a tracker entry (a REFUSED, a mismatched reply, the expiry of its timer) gives its next attempt at step 4
while its attempts are below 1 + the retry limit, and final failure FAILED at it; an ERROR is final at once. An expiry retires
the tag for four periods of the timeout and is counted (R31 to R34, R60, R65, R157, R158); for a slot, as a REFUSED (R72, R73).
The model's choice: the next attempt asks for its tag in the same step, before any other waiter (log entry 25), and a packet of the
ended attempt stays in the transmitter (log entry 29). -/
def Obligations.FailedAttemptsRetryUpToTheLimit : Prop :=
  (∀ (s : State) (n : Fin 12) (e : TrackerEntry), s.entry n = some e →
    s.failAttempt n = if e.attempts < 1 + s.dlink.retryLimit.toNat then s.step4 n else s.failFinal n .failed none) ∧
  (∀ (s : State) (a : Arrival) (p : HomePacket) (rest : List Frame) (t : Fin 32) (n : Fin 12) (e : TrackerEntry)
    (r : Request) (more : List Request),
    s.Replies a p rest t (.entry n) → s.entry n = some e → e.parked = r :: more →
    let b := s.replyTaken a rest t
    let mismatch : Prop := exec (p.command a) s = .next (wrapUp s ((b.log {
      kind := .replyMismatch, stream := none, requestTag := none, line := some e.line, dTag := some t, reason := none
      attempts := some e.attempts }).failAttempt n))
    let reads : Prop := e.kind = .directRead ∨ e.kind = .purgeDirect ∧ r.isWrite = false
    let writes : Prop := e.kind = .directWrite ∨ e.kind = .purgeDirect ∧ r.isWrite = true
    (p = .refused t → exec (p.command a) s = .next (wrapUp s (b.failAttempt n))) ∧
    (∀ reason, p = .error t reason →
      exec (p.command a) s = .next (wrapUp s (b.failFinal n .failed (some reason)))) ∧
    (∀ l ws, p = .dataS t l ws → (e.kind ≠ .fetchS ∨ l ≠ e.line) → mismatch) ∧
    (∀ l ws, p = .dataO t l ws →
      (¬ (e.kind = .fetchS ∨ e.kind = .fetchO ∨ e.kind = .upgrade ∧ e.converted = true) ∨ l ≠ e.line) → mismatch) ∧
    (∀ l, p = .grant t l → (e.kind ≠ .upgrade ∨ e.converted = true ∨ l ≠ e.line) → mismatch) ∧
    (∀ z ws, p = .wordData t z ws → (¬ reads ∨ z ≠ r.size.code) → mismatch) ∧
    (p = .done t → ¬ writes → mismatch)) ∧
  ∀ (s : State) (t : Fin 32) (owner : Owner) (timer : BitVec 8), s.resetN = true → s.tag t = .inUse owner timer →
    let b : State := { s with dlink := { s.dlink with
      tags := s.dlink.tags.set t (.retired (4 * s.dlink.timeout.toNat))
      timeouts := if s.dlink.timeouts = 65535 then 65535 else s.dlink.timeouts + 1 } }
    (∀ n, owner = .entry n → exec (.responseTimerExpiry t) s = .next (wrapUp s (b.failAttempt n))) ∧
    ∀ k sl, owner = .slot k → s.slot k = some sl →
      (sl.state = .sending t → exec (.responseTimerExpiry t) s =
        .next (wrapUp s ((b.setSlot k (some { sl with state := .queued })).queueSlot k))) ∧
      (sl.state = .answered t → exec (.responseTimerExpiry t) s = .next (wrapUp s (b.releaseSlot k)))

/-- Replies nobody waits for: for a RETIRED tag, or while TRAINING or FAULTED, a reply is discarded and counted as stale; for a
FREE tag it is counted and logged as UNKNOWN-TAG; recalls while TRAINING or FAULTED, and a HELLO-ACK while UP or FAULTED, are
discarded (R152, R153, R156, R161). A stale window's end frees its tag (R158); that STALE_WINDOW_END does nothing to a tag that is
not RETIRED is the model's choice (log entry 1). -/
def Obligations.StaleAndUnknownReplies : Prop :=
  (∀ (s : State) (a : Arrival) (p : HomePacket) (rest : List Frame), s.Receives a p rest →
    let b := s.packetTaken a rest
    let stale : State := { b with dlink := { b.dlink with
      staleReplies := if b.dlink.staleReplies = 65535 then 65535 else b.dlink.staleReplies + 1 } }
    let counted : State := { b with dlink := { b.dlink with
      unknownTags := if b.dlink.unknownTags = 65535 then 65535 else b.dlink.unknownTags + 1 } }
    (∀ t, p.tag? = some t → s.dlink.state ≠ .up → exec (p.command a) s = .next stale) ∧
    (∀ t w, p.tag? = some t → s.dlink.state = .up → s.tag t = .retired w → exec (p.command a) s = .next stale) ∧
    (∀ t, p.tag? = some t → s.dlink.state = .up → s.tag t = .free → exec (p.command a) s =
      .next (announce s (counted.log {
        kind := .unknownTag, stream := none, requestTag := none, line := p.line?, dTag := some t, reason := p.reason?
        attempts := none }))) ∧
    (∀ h l, p = .recallShare h l ∨ p = .recallDrop h l → s.dlink.state ≠ .up → exec (p.command a) s = .next b) ∧
    ∀ z i, p = .helloAck z i → s.dlink.state ≠ .training → exec (p.command a) s = .next (wrapUp s b)) ∧
  ∀ (s : State) (t : Fin 32), s.resetN = true →
    (∀ w, s.tag t = .retired w → exec (.staleWindowEnd t) s =
      .next { s with dlink := { s.dlink with tags := s.dlink.tags.set t .free } }) ∧
    ((∀ w, s.tag t ≠ .retired w) → exec (.staleWindowEnd t) s = .next s)

/-- A recall taken while the link is UP: the way found, or the slot that still carries the line, gives its words up and is
demoted, dropped, freed or made ANSWERED, and the RECALL-REPLY is formed in the same step; a line found nowhere is answered
NOT-HELD with nothing changed (R37 to R43, R49). The model's choice: a RECALL-DROP converts every UPGRADE entry that holds the
way it finds SHARED, an ENDING one too (log entry 27), and of several slots with the line the lowest answers (log entry 28). -/
def Obligations.RecallsAreAnsweredFromWhatIsFound : Prop :=
  ∀ (s : State) (a : Arrival) (p : HomePacket) (rest : List Frame) (h : BitVec 8) (l : LineAddr) (drop : Bool),
    s.Receives a p rest → s.dlink.state = .up → p = (if drop then .recallDrop h l else .recallShare h l) →
    let b := s.packetTaken a rest
    let answer (t : State) (o : RecallOutcome) : Prop := exec (p.command a) s = .next (wrapUp s
      (State.endSlotNotSent { t with dlink := { t.dlink with tx := t.dlink.tx ++ [.recallReply h l o] } }))
    let given (k : Fin 4) (sl : EvictionSlot) (t : State) (o : RecallOutcome) : Prop :=
      (sl.state = .queued → answer (t.releaseSlot k) o) ∧
      (∀ u, sl.state = .sending u → answer (t.setSlot k (some { sl with state := .answered u })) o)
    (∀ w, s.lookup l = some w →
      let r := s.line w
      let recalled := b.setLine w { r with state := if drop then .invalid else .shared, marks := 0 }
      let converts (n : Fin 12) (e : TrackerEntry) : Prop := drop = true ∧ r.state = .shared ∧ r.holder = .entry n ∧
        s.entry n = some e ∧ e.kind = .upgrade
      let reply (mask : BitVec 8) : RecallOutcome := if mask = 0 then .clean else .data mask r.data
      let flushed (k : Fin 4) (sl : EvictionSlot) : Prop := r.holder = .slot k ∧ s.slot k = some sl ∧
        sl.kind = .flush ∧ ∀ u, sl.state ≠ .answered u
      ((∀ k sl, ¬ flushed k sl) → (∀ n e, ¬ converts n e) → answer recalled (reply r.marks)) ∧
      (∀ n e, converts n e → answer (recalled.setEntry n (some { e with converted := true })) (reply r.marks)) ∧
      ∀ k sl, flushed k sl → given k sl recalled (reply (r.marks ||| sl.mask))) ∧
    (s.lookup l = none →
      let carries (k : Fin 4) (sl : EvictionSlot) : Prop := s.slot k = some sl ∧ sl.line = l ∧ sl.kind ≠ .flush ∧
        ∀ u, sl.state ≠ .answered u
      ((∀ k sl, ¬ carries k sl) → answer b .notHeld) ∧
      ∀ k sl, carries k sl → (∀ j < k, ∀ x, ¬ carries j x) →
        let o : RecallOutcome := if sl.kind = .release then .clean else .data sl.mask sl.data
        given k sl b o ∧
        ∀ n e, sl.state = .parked n → s.entry n = some e →
          answer ((b.setEntry n (some { e with victim := none })).releaseSlot k) o)

/-- The rows of the link itself: the signal's coming starts training from DOWN, its going takes TRAINING to DOWN and UP through
the DOWN event; a HELLO and a fresh timer at each expiry in TRAINING; the answer that trains the link or faults it, and what a
link that is UP sends at once; the DOWN event, whole (R76, R77, R150, R151, R152, R162 to R165). The model's choice:
TRAINING_TIMER_EXPIRY outside TRAINING and a signal lost twice change nothing (log entry 1); an entry whose slot the step sends
is left at step 4, showing NO-TAG, to ask for a tag after the step (log entry 15); a frame in progress outlives a DOWN event that
keeps the signal (log entry 32); and a HELLO-ACK that faults the link leaves the formed packets in the transmitter (log entry 16). -/
def Obligations.LinkRows : Prop :=
  ∀ s : State, s.resetN = true →
    let trained (d : DLink) : State := { s with dlink := { d with
      state := .training, trainingTimer := some 10, tx := d.tx ++ [.hello] } }
    let present : DLink := { s.dlink with signal := true }
    let lost : DLink := { s.dlink with signal := false, rx := [], tx := [], framing := false }
    exec .signalPresent s =
      .next (if s.dlink.state = .down then trained present else { s with dlink := present }) ∧
    exec .trainingTimerExpiry s = .next (if s.dlink.state = .training then trained s.dlink else s) ∧
    (s.dlink.signal = false → exec .signalLost s = .next s) ∧
    (s.dlink.signal = true →
      (s.dlink.state = .up → exec .signalLost s = .next (wrapUp s (State.downEvent { s with dlink := lost }))) ∧
      (s.dlink.state = .training → exec .signalLost s =
        .next { s with dlink := { lost with state := .down, trainingTimer := none } }) ∧
      ((s.dlink.state = .down ∨ s.dlink.state = .faulted) → exec .signalLost s = .next { s with dlink := lost })) ∧
    (∀ a rest size id, s.Receives a (.helloAck size id) rest → s.dlink.state = .training →
      let b := s.packetTaken a rest
      (size ≠ 64 → exec (.helloAck a) s = .next (wrapUp s (State.raise { b with dlink := { b.dlink with
        state := .faulted, trainingTimer := none } } 5))) ∧
      (size = 64 →
        let sent : State := ((((State.raise { b with dlink := { b.dlink with
          state := .up, homeId := id, trainingTimer := none } } 4).askTag 0).askTag 1).askTag 2).askTag 3
        ∃ entries : Vector (Option TrackerEntry) 12,
          exec (.helloAck a) s = .next (wrapUp s { sent with entries := entries }) ∧
          ∀ n : Fin 12,
            let passed (e : TrackerEntry) : Prop := e.phase = .waiting .slotNotSent ∧
              ∀ k sl, sent.slot k = some sl → sl.line = e.line → sl.state ≠ .queued
            (sent.entry n = none → entries[n] = none) ∧
            ∀ e, sent.entry n = some e →
              (passed e → entries[n] = some { e with phase := .waiting .noTag, wake := false }) ∧
              (¬ passed e → entries[n] = some e))) ∧
    (s.downEvent =
      let b : State := { s with dlink := { s.dlink with
        state := .down, tags := Vector.replicate 32 .free, rx := [], tx := [] } }
      let failing := (List.finRange 12).filter fun n => ((s.entry n).map fun e => e.phase != .ending).getD false
      let b := failing.foldl (fun b n => b.failFinal n .linkDown none) b
      ((((b.downSlot 0).downSlot 1).downSlot 2).downSlot 3).raise 3) ∧
    ∀ k, (s.slot k = none → s.downSlot k = s) ∧
      ∀ sl, s.slot k = some sl →
        let w := sl.origin
        let unsent : Prop := sl.state = .queued ∨ ∃ t, sl.state = .sending t
        ((∃ t, sl.state = .answered t) → s.downSlot k = s.releaseSlot k) ∧
        (unsent → sl.kind = .flush → s.downSlot k = (s.setLine w { s.line w with
          marks := (s.line w).marks ||| sl.mask, state := .modified }).releaseSlot k) ∧
        (unsent → sl.kind ≠ .flush → s.downSlot k = s.setSlot k (some { sl with state := .queued }))

/-! ## Invariants -/

/-- Every step keeps modified marks, line states and slot masks in agreement (R3, R26, R69). -/
def Obligations.MarksAgreeAfterEveryStep : Prop :=
  ∀ s t : State, s.MarksAgree → step s = .next t → t.MarksAgree

/-- Every step keeps every collection that has a capacity within it (About This Manual 2.3): the egress queue and the intake queues
and pool (R103, R120), a stream's outstanding tags and its depth (R100, R113), parked requests (R50), the active copy (R82), the
fault record (R180), and of the running action the own-slot set, the passed-over list, at most 512 ways and none twice, and the three
counts (R127, R136, R137, R139, R140). The premise says too what keeps the walk's part so: the passed-over ways stand in the walk's
order behind its position, and each way it has moved past was counted or passed over once at most. The receivers and the D-link
transmitter have no capacity: that is the model's choice (log entries 29 and 31). -/
def Obligations.CapacitiesHoldAfterEveryStep : Prop :=
  ∀ s t : State, s.WithinCapacities → step s = .next t → t.WithinCapacities

/-- Every step keeps stream records legal and stream 0 OPEN with MANAGE (R101, R113), the active copy sorted without overlap
(R82), settings and attempts in range (R60, R159), and the lines of tracker entries distinct (R50). -/
def Obligations.RecordsStayLegal : Prop :=
  ∀ s t : State, step s = .next t →
    (s.StreamsLegal → t.StreamsLegal) ∧ (s.windows.Sorted → t.windows.Sorted) ∧
    (s.AttemptsLegal → t.AttemptsLegal) ∧ (s.LinesDistinct → t.LinesDistinct)

/-- While RESET_N is low the state holds its power-on values, whatever commands come (R194). The values R194 does not state (empty
lanes, no lock, no frame in progress, an empty D-link transmitter) are the model's choice (log entries 5 and 9). -/
def Obligations.ResetValuesHoldWhileLow : Prop :=
  ∀ s t : State, s.LowHolds → step s = .next t → t.LowHolds

/-- The state after reset meets every invariant (R22, R78, R99, R124, R166, R183). What LowHolds says of the lanes, the lock, the
frames in progress and the D-link transmitter is the model's choice (log entries 5 and 9). -/
def Obligations.ResetMeetsTheInvariants : Prop :=
  State.reset.MarksAgree ∧ State.reset.WithinCapacities ∧ State.reset.StreamsLegal ∧ State.reset.windows.Sorted ∧
    State.reset.AttemptsLegal ∧ State.reset.LinesDistinct ∧ State.reset.LowHolds
end

