-- ==== Sys2Proof/Laws/State.lean ====
section
/-! SUPPORT. The small lemmas of the state's accessors and updates: what each update leaves in each field and what each accessor
reads after it, so that no proof unfolds a record update. -/

namespace Sys2Proof.Machine

variable (s : State)

/-! ### setLine -/

@[simp] theorem State.setLine_resetN (w : WayRef) (r : LineRecord) : (s.setLine w r).resetN = s.resetN := rfl
@[simp] theorem State.setLine_ulink (w : WayRef) (r : LineRecord) : (s.setLine w r).ulink = s.ulink := rfl
@[simp] theorem State.setLine_streams (w : WayRef) (r : LineRecord) : (s.setLine w r).streams = s.streams := rfl
@[simp] theorem State.setLine_arbiter (w : WayRef) (r : LineRecord) : (s.setLine w r).arbiter = s.arbiter := rfl
@[simp] theorem State.setLine_windows (w : WayRef) (r : LineRecord) : (s.setLine w r).windows = s.windows := rfl
@[simp] theorem State.setLine_lineStoreOn (w : WayRef) (r : LineRecord) : (s.setLine w r).lineStoreOn = s.lineStoreOn := rfl
@[simp] theorem State.setLine_entries (w : WayRef) (r : LineRecord) : (s.setLine w r).entries = s.entries := rfl
@[simp] theorem State.setLine_slots (w : WayRef) (r : LineRecord) : (s.setLine w r).slots = s.slots := rfl
@[simp] theorem State.setLine_engine (w : WayRef) (r : LineRecord) : (s.setLine w r).engine = s.engine := rfl
@[simp] theorem State.setLine_dlink (w : WayRef) (r : LineRecord) : (s.setLine w r).dlink = s.dlink := rfl
@[simp] theorem State.setLine_faults (w : WayRef) (r : LineRecord) : (s.setLine w r).faults = s.faults := rfl
@[simp] theorem State.setLine_notices (w : WayRef) (r : LineRecord) : (s.setLine w r).notices = s.notices := rfl
@[simp] theorem State.setLine_pending (w : WayRef) (r : LineRecord) : (s.setLine w r).pending = s.pending := rfl
@[simp] theorem State.setLine_entry_other (w : WayRef) (r : LineRecord) (x : Fin 12) : (s.setLine w r).entry x = s.entry x := rfl
@[simp] theorem State.setLine_slot_other (w : WayRef) (r : LineRecord) (x : Fin 4) : (s.setLine w r).slot x = s.slot x := rfl
@[simp] theorem State.setLine_stream_other (w : WayRef) (r : LineRecord) (x : Fin 16) : (s.setLine w r).stream x = s.stream x := rfl
@[simp] theorem State.setLine_tag_other (w : WayRef) (r : LineRecord) (x : Fin 32) : (s.setLine w r).tag x = s.tag x := rfl
@[simp] theorem State.setLine_notice_other (w : WayRef) (r : LineRecord) (x : Fin 6) : (s.setLine w r).notice x = s.notice x := rfl
@[simp] theorem State.setLine_linkUp_other (w : WayRef) (r : LineRecord) : (s.setLine w r).linkUp = s.linkUp := rfl
@[simp] theorem State.setLine_resetting_other (w : WayRef) (r : LineRecord) : (s.setLine w r).resetting = s.resetting := rfl
@[simp] theorem State.setLine_room_other (w : WayRef) (r : LineRecord) : (s.setLine w r).room = s.room := rfl

/-! ### setVictim -/

@[simp] theorem State.setVictim_resetN (c : Fin 128) (v : Fin 4) : (s.setVictim c v).resetN = s.resetN := rfl
@[simp] theorem State.setVictim_ulink (c : Fin 128) (v : Fin 4) : (s.setVictim c v).ulink = s.ulink := rfl
@[simp] theorem State.setVictim_streams (c : Fin 128) (v : Fin 4) : (s.setVictim c v).streams = s.streams := rfl
@[simp] theorem State.setVictim_arbiter (c : Fin 128) (v : Fin 4) : (s.setVictim c v).arbiter = s.arbiter := rfl
@[simp] theorem State.setVictim_windows (c : Fin 128) (v : Fin 4) : (s.setVictim c v).windows = s.windows := rfl
@[simp] theorem State.setVictim_lineStoreOn (c : Fin 128) (v : Fin 4) : (s.setVictim c v).lineStoreOn = s.lineStoreOn := rfl
@[simp] theorem State.setVictim_entries (c : Fin 128) (v : Fin 4) : (s.setVictim c v).entries = s.entries := rfl
@[simp] theorem State.setVictim_slots (c : Fin 128) (v : Fin 4) : (s.setVictim c v).slots = s.slots := rfl
@[simp] theorem State.setVictim_engine (c : Fin 128) (v : Fin 4) : (s.setVictim c v).engine = s.engine := rfl
@[simp] theorem State.setVictim_dlink (c : Fin 128) (v : Fin 4) : (s.setVictim c v).dlink = s.dlink := rfl
@[simp] theorem State.setVictim_faults (c : Fin 128) (v : Fin 4) : (s.setVictim c v).faults = s.faults := rfl
@[simp] theorem State.setVictim_notices (c : Fin 128) (v : Fin 4) : (s.setVictim c v).notices = s.notices := rfl
@[simp] theorem State.setVictim_pending (c : Fin 128) (v : Fin 4) : (s.setVictim c v).pending = s.pending := rfl
@[simp] theorem State.setVictim_entry_other (c : Fin 128) (v : Fin 4) (x : Fin 12) : (s.setVictim c v).entry x = s.entry x := rfl
@[simp] theorem State.setVictim_slot_other (c : Fin 128) (v : Fin 4) (x : Fin 4) : (s.setVictim c v).slot x = s.slot x := rfl
@[simp] theorem State.setVictim_stream_other (c : Fin 128) (v : Fin 4) (x : Fin 16) : (s.setVictim c v).stream x = s.stream x := rfl
@[simp] theorem State.setVictim_tag_other (c : Fin 128) (v : Fin 4) (x : Fin 32) : (s.setVictim c v).tag x = s.tag x := rfl
@[simp] theorem State.setVictim_notice_other (c : Fin 128) (v : Fin 4) (x : Fin 6) : (s.setVictim c v).notice x = s.notice x := rfl
@[simp] theorem State.setVictim_linkUp_other (c : Fin 128) (v : Fin 4) : (s.setVictim c v).linkUp = s.linkUp := rfl
@[simp] theorem State.setVictim_resetting_other (c : Fin 128) (v : Fin 4) : (s.setVictim c v).resetting = s.resetting := rfl
@[simp] theorem State.setVictim_room_other (c : Fin 128) (v : Fin 4) : (s.setVictim c v).room = s.room := rfl

/-! ### setEntry -/

@[simp] theorem State.setEntry_resetN (n : Fin 12) (e : Option TrackerEntry) : (s.setEntry n e).resetN = s.resetN := rfl
@[simp] theorem State.setEntry_ulink (n : Fin 12) (e : Option TrackerEntry) : (s.setEntry n e).ulink = s.ulink := rfl
@[simp] theorem State.setEntry_streams (n : Fin 12) (e : Option TrackerEntry) : (s.setEntry n e).streams = s.streams := rfl
@[simp] theorem State.setEntry_arbiter (n : Fin 12) (e : Option TrackerEntry) : (s.setEntry n e).arbiter = s.arbiter := rfl
@[simp] theorem State.setEntry_windows (n : Fin 12) (e : Option TrackerEntry) : (s.setEntry n e).windows = s.windows := rfl
@[simp] theorem State.setEntry_lineStoreOn (n : Fin 12) (e : Option TrackerEntry) : (s.setEntry n e).lineStoreOn = s.lineStoreOn := rfl
@[simp] theorem State.setEntry_store (n : Fin 12) (e : Option TrackerEntry) : (s.setEntry n e).store = s.store := rfl
@[simp] theorem State.setEntry_slots (n : Fin 12) (e : Option TrackerEntry) : (s.setEntry n e).slots = s.slots := rfl
@[simp] theorem State.setEntry_engine (n : Fin 12) (e : Option TrackerEntry) : (s.setEntry n e).engine = s.engine := rfl
@[simp] theorem State.setEntry_dlink (n : Fin 12) (e : Option TrackerEntry) : (s.setEntry n e).dlink = s.dlink := rfl
@[simp] theorem State.setEntry_faults (n : Fin 12) (e : Option TrackerEntry) : (s.setEntry n e).faults = s.faults := rfl
@[simp] theorem State.setEntry_notices (n : Fin 12) (e : Option TrackerEntry) : (s.setEntry n e).notices = s.notices := rfl
@[simp] theorem State.setEntry_pending (n : Fin 12) (e : Option TrackerEntry) : (s.setEntry n e).pending = s.pending := rfl
@[simp] theorem State.setEntry_line_other (n : Fin 12) (e : Option TrackerEntry) (x : WayRef) : (s.setEntry n e).line x = s.line x := rfl
@[simp] theorem State.setEntry_victim_other (n : Fin 12) (e : Option TrackerEntry) (x : Fin 128) : (s.setEntry n e).victim x = s.victim x := rfl
@[simp] theorem State.setEntry_slot_other (n : Fin 12) (e : Option TrackerEntry) (x : Fin 4) : (s.setEntry n e).slot x = s.slot x := rfl
@[simp] theorem State.setEntry_stream_other (n : Fin 12) (e : Option TrackerEntry) (x : Fin 16) : (s.setEntry n e).stream x = s.stream x := rfl
@[simp] theorem State.setEntry_tag_other (n : Fin 12) (e : Option TrackerEntry) (x : Fin 32) : (s.setEntry n e).tag x = s.tag x := rfl
@[simp] theorem State.setEntry_notice_other (n : Fin 12) (e : Option TrackerEntry) (x : Fin 6) : (s.setEntry n e).notice x = s.notice x := rfl
@[simp] theorem State.setEntry_linkUp_other (n : Fin 12) (e : Option TrackerEntry) : (s.setEntry n e).linkUp = s.linkUp := rfl
@[simp] theorem State.setEntry_resetting_other (n : Fin 12) (e : Option TrackerEntry) : (s.setEntry n e).resetting = s.resetting := rfl
@[simp] theorem State.setEntry_room_other (n : Fin 12) (e : Option TrackerEntry) : (s.setEntry n e).room = s.room := rfl

/-! ### setSlot -/

@[simp] theorem State.setSlot_resetN (k : Fin 4) (e : Option EvictionSlot) : (s.setSlot k e).resetN = s.resetN := rfl
@[simp] theorem State.setSlot_ulink (k : Fin 4) (e : Option EvictionSlot) : (s.setSlot k e).ulink = s.ulink := rfl
@[simp] theorem State.setSlot_streams (k : Fin 4) (e : Option EvictionSlot) : (s.setSlot k e).streams = s.streams := rfl
@[simp] theorem State.setSlot_arbiter (k : Fin 4) (e : Option EvictionSlot) : (s.setSlot k e).arbiter = s.arbiter := rfl
@[simp] theorem State.setSlot_windows (k : Fin 4) (e : Option EvictionSlot) : (s.setSlot k e).windows = s.windows := rfl
@[simp] theorem State.setSlot_lineStoreOn (k : Fin 4) (e : Option EvictionSlot) : (s.setSlot k e).lineStoreOn = s.lineStoreOn := rfl
@[simp] theorem State.setSlot_store (k : Fin 4) (e : Option EvictionSlot) : (s.setSlot k e).store = s.store := rfl
@[simp] theorem State.setSlot_entries (k : Fin 4) (e : Option EvictionSlot) : (s.setSlot k e).entries = s.entries := rfl
@[simp] theorem State.setSlot_engine (k : Fin 4) (e : Option EvictionSlot) : (s.setSlot k e).engine = s.engine := rfl
@[simp] theorem State.setSlot_dlink (k : Fin 4) (e : Option EvictionSlot) : (s.setSlot k e).dlink = s.dlink := rfl
@[simp] theorem State.setSlot_faults (k : Fin 4) (e : Option EvictionSlot) : (s.setSlot k e).faults = s.faults := rfl
@[simp] theorem State.setSlot_notices (k : Fin 4) (e : Option EvictionSlot) : (s.setSlot k e).notices = s.notices := rfl
@[simp] theorem State.setSlot_pending (k : Fin 4) (e : Option EvictionSlot) : (s.setSlot k e).pending = s.pending := rfl
@[simp] theorem State.setSlot_line_other (k : Fin 4) (e : Option EvictionSlot) (x : WayRef) : (s.setSlot k e).line x = s.line x := rfl
@[simp] theorem State.setSlot_victim_other (k : Fin 4) (e : Option EvictionSlot) (x : Fin 128) : (s.setSlot k e).victim x = s.victim x := rfl
@[simp] theorem State.setSlot_entry_other (k : Fin 4) (e : Option EvictionSlot) (x : Fin 12) : (s.setSlot k e).entry x = s.entry x := rfl
@[simp] theorem State.setSlot_stream_other (k : Fin 4) (e : Option EvictionSlot) (x : Fin 16) : (s.setSlot k e).stream x = s.stream x := rfl
@[simp] theorem State.setSlot_tag_other (k : Fin 4) (e : Option EvictionSlot) (x : Fin 32) : (s.setSlot k e).tag x = s.tag x := rfl
@[simp] theorem State.setSlot_notice_other (k : Fin 4) (e : Option EvictionSlot) (x : Fin 6) : (s.setSlot k e).notice x = s.notice x := rfl
@[simp] theorem State.setSlot_linkUp_other (k : Fin 4) (e : Option EvictionSlot) : (s.setSlot k e).linkUp = s.linkUp := rfl
@[simp] theorem State.setSlot_resetting_other (k : Fin 4) (e : Option EvictionSlot) : (s.setSlot k e).resetting = s.resetting := rfl
@[simp] theorem State.setSlot_room_other (k : Fin 4) (e : Option EvictionSlot) : (s.setSlot k e).room = s.room := rfl

/-! ### setStream -/

@[simp] theorem State.setStream_resetN (st : Fin 16) (r : StreamRecord) : (s.setStream st r).resetN = s.resetN := rfl
@[simp] theorem State.setStream_ulink (st : Fin 16) (r : StreamRecord) : (s.setStream st r).ulink = s.ulink := rfl
@[simp] theorem State.setStream_arbiter (st : Fin 16) (r : StreamRecord) : (s.setStream st r).arbiter = s.arbiter := rfl
@[simp] theorem State.setStream_windows (st : Fin 16) (r : StreamRecord) : (s.setStream st r).windows = s.windows := rfl
@[simp] theorem State.setStream_lineStoreOn (st : Fin 16) (r : StreamRecord) : (s.setStream st r).lineStoreOn = s.lineStoreOn := rfl
@[simp] theorem State.setStream_store (st : Fin 16) (r : StreamRecord) : (s.setStream st r).store = s.store := rfl
@[simp] theorem State.setStream_entries (st : Fin 16) (r : StreamRecord) : (s.setStream st r).entries = s.entries := rfl
@[simp] theorem State.setStream_slots (st : Fin 16) (r : StreamRecord) : (s.setStream st r).slots = s.slots := rfl
@[simp] theorem State.setStream_engine (st : Fin 16) (r : StreamRecord) : (s.setStream st r).engine = s.engine := rfl
@[simp] theorem State.setStream_dlink (st : Fin 16) (r : StreamRecord) : (s.setStream st r).dlink = s.dlink := rfl
@[simp] theorem State.setStream_faults (st : Fin 16) (r : StreamRecord) : (s.setStream st r).faults = s.faults := rfl
@[simp] theorem State.setStream_notices (st : Fin 16) (r : StreamRecord) : (s.setStream st r).notices = s.notices := rfl
@[simp] theorem State.setStream_pending (st : Fin 16) (r : StreamRecord) : (s.setStream st r).pending = s.pending := rfl
@[simp] theorem State.setStream_line_other (st : Fin 16) (r : StreamRecord) (x : WayRef) : (s.setStream st r).line x = s.line x := rfl
@[simp] theorem State.setStream_victim_other (st : Fin 16) (r : StreamRecord) (x : Fin 128) : (s.setStream st r).victim x = s.victim x := rfl
@[simp] theorem State.setStream_entry_other (st : Fin 16) (r : StreamRecord) (x : Fin 12) : (s.setStream st r).entry x = s.entry x := rfl
@[simp] theorem State.setStream_slot_other (st : Fin 16) (r : StreamRecord) (x : Fin 4) : (s.setStream st r).slot x = s.slot x := rfl
@[simp] theorem State.setStream_tag_other (st : Fin 16) (r : StreamRecord) (x : Fin 32) : (s.setStream st r).tag x = s.tag x := rfl
@[simp] theorem State.setStream_notice_other (st : Fin 16) (r : StreamRecord) (x : Fin 6) : (s.setStream st r).notice x = s.notice x := rfl
@[simp] theorem State.setStream_linkUp_other (st : Fin 16) (r : StreamRecord) : (s.setStream st r).linkUp = s.linkUp := rfl
@[simp] theorem State.setStream_resetting_other (st : Fin 16) (r : StreamRecord) : (s.setStream st r).resetting = s.resetting := rfl
@[simp] theorem State.setStream_room_other (st : Fin 16) (r : StreamRecord) : (s.setStream st r).room = s.room := rfl

/-! ### setTag -/

@[simp] theorem State.setTag_resetN (t : Fin 32) (r : TagRecord) : (s.setTag t r).resetN = s.resetN := rfl
@[simp] theorem State.setTag_ulink (t : Fin 32) (r : TagRecord) : (s.setTag t r).ulink = s.ulink := rfl
@[simp] theorem State.setTag_streams (t : Fin 32) (r : TagRecord) : (s.setTag t r).streams = s.streams := rfl
@[simp] theorem State.setTag_arbiter (t : Fin 32) (r : TagRecord) : (s.setTag t r).arbiter = s.arbiter := rfl
@[simp] theorem State.setTag_windows (t : Fin 32) (r : TagRecord) : (s.setTag t r).windows = s.windows := rfl
@[simp] theorem State.setTag_lineStoreOn (t : Fin 32) (r : TagRecord) : (s.setTag t r).lineStoreOn = s.lineStoreOn := rfl
@[simp] theorem State.setTag_store (t : Fin 32) (r : TagRecord) : (s.setTag t r).store = s.store := rfl
@[simp] theorem State.setTag_entries (t : Fin 32) (r : TagRecord) : (s.setTag t r).entries = s.entries := rfl
@[simp] theorem State.setTag_slots (t : Fin 32) (r : TagRecord) : (s.setTag t r).slots = s.slots := rfl
@[simp] theorem State.setTag_engine (t : Fin 32) (r : TagRecord) : (s.setTag t r).engine = s.engine := rfl
@[simp] theorem State.setTag_faults (t : Fin 32) (r : TagRecord) : (s.setTag t r).faults = s.faults := rfl
@[simp] theorem State.setTag_notices (t : Fin 32) (r : TagRecord) : (s.setTag t r).notices = s.notices := rfl
@[simp] theorem State.setTag_pending (t : Fin 32) (r : TagRecord) : (s.setTag t r).pending = s.pending := rfl
@[simp] theorem State.setTag_line_other (t : Fin 32) (r : TagRecord) (x : WayRef) : (s.setTag t r).line x = s.line x := rfl
@[simp] theorem State.setTag_victim_other (t : Fin 32) (r : TagRecord) (x : Fin 128) : (s.setTag t r).victim x = s.victim x := rfl
@[simp] theorem State.setTag_entry_other (t : Fin 32) (r : TagRecord) (x : Fin 12) : (s.setTag t r).entry x = s.entry x := rfl
@[simp] theorem State.setTag_slot_other (t : Fin 32) (r : TagRecord) (x : Fin 4) : (s.setTag t r).slot x = s.slot x := rfl
@[simp] theorem State.setTag_stream_other (t : Fin 32) (r : TagRecord) (x : Fin 16) : (s.setTag t r).stream x = s.stream x := rfl
@[simp] theorem State.setTag_notice_other (t : Fin 32) (r : TagRecord) (x : Fin 6) : (s.setTag t r).notice x = s.notice x := rfl
@[simp] theorem State.setTag_resetting_other (t : Fin 32) (r : TagRecord) : (s.setTag t r).resetting = s.resetting := rfl
@[simp] theorem State.setTag_room_other (t : Fin 32) (r : TagRecord) : (s.setTag t r).room = s.room := rfl

/-! ### setNotice -/

@[simp] theorem State.setNotice_resetN (k : Fin 6) (r : NoticeSource) : (s.setNotice k r).resetN = s.resetN := rfl
@[simp] theorem State.setNotice_ulink (k : Fin 6) (r : NoticeSource) : (s.setNotice k r).ulink = s.ulink := rfl
@[simp] theorem State.setNotice_streams (k : Fin 6) (r : NoticeSource) : (s.setNotice k r).streams = s.streams := rfl
@[simp] theorem State.setNotice_arbiter (k : Fin 6) (r : NoticeSource) : (s.setNotice k r).arbiter = s.arbiter := rfl
@[simp] theorem State.setNotice_windows (k : Fin 6) (r : NoticeSource) : (s.setNotice k r).windows = s.windows := rfl
@[simp] theorem State.setNotice_lineStoreOn (k : Fin 6) (r : NoticeSource) : (s.setNotice k r).lineStoreOn = s.lineStoreOn := rfl
@[simp] theorem State.setNotice_store (k : Fin 6) (r : NoticeSource) : (s.setNotice k r).store = s.store := rfl
@[simp] theorem State.setNotice_entries (k : Fin 6) (r : NoticeSource) : (s.setNotice k r).entries = s.entries := rfl
@[simp] theorem State.setNotice_slots (k : Fin 6) (r : NoticeSource) : (s.setNotice k r).slots = s.slots := rfl
@[simp] theorem State.setNotice_engine (k : Fin 6) (r : NoticeSource) : (s.setNotice k r).engine = s.engine := rfl
@[simp] theorem State.setNotice_dlink (k : Fin 6) (r : NoticeSource) : (s.setNotice k r).dlink = s.dlink := rfl
@[simp] theorem State.setNotice_faults (k : Fin 6) (r : NoticeSource) : (s.setNotice k r).faults = s.faults := rfl
@[simp] theorem State.setNotice_pending (k : Fin 6) (r : NoticeSource) : (s.setNotice k r).pending = s.pending := rfl
@[simp] theorem State.setNotice_line_other (k : Fin 6) (r : NoticeSource) (x : WayRef) : (s.setNotice k r).line x = s.line x := rfl
@[simp] theorem State.setNotice_victim_other (k : Fin 6) (r : NoticeSource) (x : Fin 128) : (s.setNotice k r).victim x = s.victim x := rfl
@[simp] theorem State.setNotice_entry_other (k : Fin 6) (r : NoticeSource) (x : Fin 12) : (s.setNotice k r).entry x = s.entry x := rfl
@[simp] theorem State.setNotice_slot_other (k : Fin 6) (r : NoticeSource) (x : Fin 4) : (s.setNotice k r).slot x = s.slot x := rfl
@[simp] theorem State.setNotice_stream_other (k : Fin 6) (r : NoticeSource) (x : Fin 16) : (s.setNotice k r).stream x = s.stream x := rfl
@[simp] theorem State.setNotice_tag_other (k : Fin 6) (r : NoticeSource) (x : Fin 32) : (s.setNotice k r).tag x = s.tag x := rfl
@[simp] theorem State.setNotice_linkUp_other (k : Fin 6) (r : NoticeSource) : (s.setNotice k r).linkUp = s.linkUp := rfl
@[simp] theorem State.setNotice_resetting_other (k : Fin 6) (r : NoticeSource) : (s.setNotice k r).resetting = s.resetting := rfl
@[simp] theorem State.setNotice_room_other (k : Fin 6) (r : NoticeSource) : (s.setNotice k r).room = s.room := rfl

/-! ### setEngine -/

@[simp] theorem State.setEngine_resetN (p : Option Progress) : (s.setEngine p).resetN = s.resetN := rfl
@[simp] theorem State.setEngine_ulink (p : Option Progress) : (s.setEngine p).ulink = s.ulink := rfl
@[simp] theorem State.setEngine_streams (p : Option Progress) : (s.setEngine p).streams = s.streams := rfl
@[simp] theorem State.setEngine_arbiter (p : Option Progress) : (s.setEngine p).arbiter = s.arbiter := rfl
@[simp] theorem State.setEngine_windows (p : Option Progress) : (s.setEngine p).windows = s.windows := rfl
@[simp] theorem State.setEngine_lineStoreOn (p : Option Progress) : (s.setEngine p).lineStoreOn = s.lineStoreOn := rfl
@[simp] theorem State.setEngine_store (p : Option Progress) : (s.setEngine p).store = s.store := rfl
@[simp] theorem State.setEngine_entries (p : Option Progress) : (s.setEngine p).entries = s.entries := rfl
@[simp] theorem State.setEngine_slots (p : Option Progress) : (s.setEngine p).slots = s.slots := rfl
@[simp] theorem State.setEngine_engine (p : Option Progress) : (s.setEngine p).engine = p := rfl
@[simp] theorem State.setEngine_dlink (p : Option Progress) : (s.setEngine p).dlink = s.dlink := rfl
@[simp] theorem State.setEngine_faults (p : Option Progress) : (s.setEngine p).faults = s.faults := rfl
@[simp] theorem State.setEngine_notices (p : Option Progress) : (s.setEngine p).notices = s.notices := rfl
@[simp] theorem State.setEngine_pending (p : Option Progress) : (s.setEngine p).pending = s.pending := rfl
@[simp] theorem State.setEngine_line_other (p : Option Progress) (x : WayRef) : (s.setEngine p).line x = s.line x := rfl
@[simp] theorem State.setEngine_victim_other (p : Option Progress) (x : Fin 128) : (s.setEngine p).victim x = s.victim x := rfl
@[simp] theorem State.setEngine_entry_other (p : Option Progress) (x : Fin 12) : (s.setEngine p).entry x = s.entry x := rfl
@[simp] theorem State.setEngine_slot_other (p : Option Progress) (x : Fin 4) : (s.setEngine p).slot x = s.slot x := rfl
@[simp] theorem State.setEngine_stream_other (p : Option Progress) (x : Fin 16) : (s.setEngine p).stream x = s.stream x := rfl
@[simp] theorem State.setEngine_tag_other (p : Option Progress) (x : Fin 32) : (s.setEngine p).tag x = s.tag x := rfl
@[simp] theorem State.setEngine_notice_other (p : Option Progress) (x : Fin 6) : (s.setEngine p).notice x = s.notice x := rfl
@[simp] theorem State.setEngine_linkUp_other (p : Option Progress) : (s.setEngine p).linkUp = s.linkUp := rfl
@[simp] theorem State.setEngine_room_other (p : Option Progress) : (s.setEngine p).room = s.room := rfl

/-! ### setULink -/

@[simp] theorem State.setULink_resetN (u : ULink) : (s.setULink u).resetN = s.resetN := rfl
@[simp] theorem State.setULink_ulink (u : ULink) : (s.setULink u).ulink = u := rfl
@[simp] theorem State.setULink_streams (u : ULink) : (s.setULink u).streams = s.streams := rfl
@[simp] theorem State.setULink_arbiter (u : ULink) : (s.setULink u).arbiter = s.arbiter := rfl
@[simp] theorem State.setULink_windows (u : ULink) : (s.setULink u).windows = s.windows := rfl
@[simp] theorem State.setULink_lineStoreOn (u : ULink) : (s.setULink u).lineStoreOn = s.lineStoreOn := rfl
@[simp] theorem State.setULink_store (u : ULink) : (s.setULink u).store = s.store := rfl
@[simp] theorem State.setULink_entries (u : ULink) : (s.setULink u).entries = s.entries := rfl
@[simp] theorem State.setULink_slots (u : ULink) : (s.setULink u).slots = s.slots := rfl
@[simp] theorem State.setULink_engine (u : ULink) : (s.setULink u).engine = s.engine := rfl
@[simp] theorem State.setULink_dlink (u : ULink) : (s.setULink u).dlink = s.dlink := rfl
@[simp] theorem State.setULink_faults (u : ULink) : (s.setULink u).faults = s.faults := rfl
@[simp] theorem State.setULink_notices (u : ULink) : (s.setULink u).notices = s.notices := rfl
@[simp] theorem State.setULink_pending (u : ULink) : (s.setULink u).pending = s.pending := rfl
@[simp] theorem State.setULink_line_other (u : ULink) (x : WayRef) : (s.setULink u).line x = s.line x := rfl
@[simp] theorem State.setULink_victim_other (u : ULink) (x : Fin 128) : (s.setULink u).victim x = s.victim x := rfl
@[simp] theorem State.setULink_entry_other (u : ULink) (x : Fin 12) : (s.setULink u).entry x = s.entry x := rfl
@[simp] theorem State.setULink_slot_other (u : ULink) (x : Fin 4) : (s.setULink u).slot x = s.slot x := rfl
@[simp] theorem State.setULink_stream_other (u : ULink) (x : Fin 16) : (s.setULink u).stream x = s.stream x := rfl
@[simp] theorem State.setULink_tag_other (u : ULink) (x : Fin 32) : (s.setULink u).tag x = s.tag x := rfl
@[simp] theorem State.setULink_notice_other (u : ULink) (x : Fin 6) : (s.setULink u).notice x = s.notice x := rfl
@[simp] theorem State.setULink_linkUp_other (u : ULink) : (s.setULink u).linkUp = s.linkUp := rfl
@[simp] theorem State.setULink_resetting_other (u : ULink) : (s.setULink u).resetting = s.resetting := rfl

/-! ### setDLink -/

@[simp] theorem State.setDLink_resetN (d : DLink) : (s.setDLink d).resetN = s.resetN := rfl
@[simp] theorem State.setDLink_ulink (d : DLink) : (s.setDLink d).ulink = s.ulink := rfl
@[simp] theorem State.setDLink_streams (d : DLink) : (s.setDLink d).streams = s.streams := rfl
@[simp] theorem State.setDLink_arbiter (d : DLink) : (s.setDLink d).arbiter = s.arbiter := rfl
@[simp] theorem State.setDLink_windows (d : DLink) : (s.setDLink d).windows = s.windows := rfl
@[simp] theorem State.setDLink_lineStoreOn (d : DLink) : (s.setDLink d).lineStoreOn = s.lineStoreOn := rfl
@[simp] theorem State.setDLink_store (d : DLink) : (s.setDLink d).store = s.store := rfl
@[simp] theorem State.setDLink_entries (d : DLink) : (s.setDLink d).entries = s.entries := rfl
@[simp] theorem State.setDLink_slots (d : DLink) : (s.setDLink d).slots = s.slots := rfl
@[simp] theorem State.setDLink_engine (d : DLink) : (s.setDLink d).engine = s.engine := rfl
@[simp] theorem State.setDLink_dlink (d : DLink) : (s.setDLink d).dlink = d := rfl
@[simp] theorem State.setDLink_faults (d : DLink) : (s.setDLink d).faults = s.faults := rfl
@[simp] theorem State.setDLink_notices (d : DLink) : (s.setDLink d).notices = s.notices := rfl
@[simp] theorem State.setDLink_pending (d : DLink) : (s.setDLink d).pending = s.pending := rfl
@[simp] theorem State.setDLink_line_other (d : DLink) (x : WayRef) : (s.setDLink d).line x = s.line x := rfl
@[simp] theorem State.setDLink_victim_other (d : DLink) (x : Fin 128) : (s.setDLink d).victim x = s.victim x := rfl
@[simp] theorem State.setDLink_entry_other (d : DLink) (x : Fin 12) : (s.setDLink d).entry x = s.entry x := rfl
@[simp] theorem State.setDLink_slot_other (d : DLink) (x : Fin 4) : (s.setDLink d).slot x = s.slot x := rfl
@[simp] theorem State.setDLink_stream_other (d : DLink) (x : Fin 16) : (s.setDLink d).stream x = s.stream x := rfl
@[simp] theorem State.setDLink_notice_other (d : DLink) (x : Fin 6) : (s.setDLink d).notice x = s.notice x := rfl
@[simp] theorem State.setDLink_resetting_other (d : DLink) : (s.setDLink d).resetting = s.resetting := rfl
@[simp] theorem State.setDLink_room_other (d : DLink) : (s.setDLink d).room = s.room := rfl

/-! ### setFaults -/

@[simp] theorem State.setFaults_resetN (f : FaultRecord) : (s.setFaults f).resetN = s.resetN := rfl
@[simp] theorem State.setFaults_ulink (f : FaultRecord) : (s.setFaults f).ulink = s.ulink := rfl
@[simp] theorem State.setFaults_streams (f : FaultRecord) : (s.setFaults f).streams = s.streams := rfl
@[simp] theorem State.setFaults_arbiter (f : FaultRecord) : (s.setFaults f).arbiter = s.arbiter := rfl
@[simp] theorem State.setFaults_windows (f : FaultRecord) : (s.setFaults f).windows = s.windows := rfl
@[simp] theorem State.setFaults_lineStoreOn (f : FaultRecord) : (s.setFaults f).lineStoreOn = s.lineStoreOn := rfl
@[simp] theorem State.setFaults_store (f : FaultRecord) : (s.setFaults f).store = s.store := rfl
@[simp] theorem State.setFaults_entries (f : FaultRecord) : (s.setFaults f).entries = s.entries := rfl
@[simp] theorem State.setFaults_slots (f : FaultRecord) : (s.setFaults f).slots = s.slots := rfl
@[simp] theorem State.setFaults_engine (f : FaultRecord) : (s.setFaults f).engine = s.engine := rfl
@[simp] theorem State.setFaults_dlink (f : FaultRecord) : (s.setFaults f).dlink = s.dlink := rfl
@[simp] theorem State.setFaults_faults (f : FaultRecord) : (s.setFaults f).faults = f := rfl
@[simp] theorem State.setFaults_notices (f : FaultRecord) : (s.setFaults f).notices = s.notices := rfl
@[simp] theorem State.setFaults_pending (f : FaultRecord) : (s.setFaults f).pending = s.pending := rfl
@[simp] theorem State.setFaults_line_other (f : FaultRecord) (x : WayRef) : (s.setFaults f).line x = s.line x := rfl
@[simp] theorem State.setFaults_victim_other (f : FaultRecord) (x : Fin 128) : (s.setFaults f).victim x = s.victim x := rfl
@[simp] theorem State.setFaults_entry_other (f : FaultRecord) (x : Fin 12) : (s.setFaults f).entry x = s.entry x := rfl
@[simp] theorem State.setFaults_slot_other (f : FaultRecord) (x : Fin 4) : (s.setFaults f).slot x = s.slot x := rfl
@[simp] theorem State.setFaults_stream_other (f : FaultRecord) (x : Fin 16) : (s.setFaults f).stream x = s.stream x := rfl
@[simp] theorem State.setFaults_tag_other (f : FaultRecord) (x : Fin 32) : (s.setFaults f).tag x = s.tag x := rfl
@[simp] theorem State.setFaults_notice_other (f : FaultRecord) (x : Fin 6) : (s.setFaults f).notice x = s.notice x := rfl
@[simp] theorem State.setFaults_linkUp_other (f : FaultRecord) : (s.setFaults f).linkUp = s.linkUp := rfl
@[simp] theorem State.setFaults_resetting_other (f : FaultRecord) : (s.setFaults f).resetting = s.resetting := rfl
@[simp] theorem State.setFaults_room_other (f : FaultRecord) : (s.setFaults f).room = s.room := rfl

/-! ### setWindows -/

@[simp] theorem State.setWindows_resetN (t : WindowTable) : (s.setWindows t).resetN = s.resetN := rfl
@[simp] theorem State.setWindows_ulink (t : WindowTable) : (s.setWindows t).ulink = s.ulink := rfl
@[simp] theorem State.setWindows_streams (t : WindowTable) : (s.setWindows t).streams = s.streams := rfl
@[simp] theorem State.setWindows_arbiter (t : WindowTable) : (s.setWindows t).arbiter = s.arbiter := rfl
@[simp] theorem State.setWindows_windows (t : WindowTable) : (s.setWindows t).windows = t := rfl
@[simp] theorem State.setWindows_lineStoreOn (t : WindowTable) : (s.setWindows t).lineStoreOn = s.lineStoreOn := rfl
@[simp] theorem State.setWindows_store (t : WindowTable) : (s.setWindows t).store = s.store := rfl
@[simp] theorem State.setWindows_entries (t : WindowTable) : (s.setWindows t).entries = s.entries := rfl
@[simp] theorem State.setWindows_slots (t : WindowTable) : (s.setWindows t).slots = s.slots := rfl
@[simp] theorem State.setWindows_engine (t : WindowTable) : (s.setWindows t).engine = s.engine := rfl
@[simp] theorem State.setWindows_dlink (t : WindowTable) : (s.setWindows t).dlink = s.dlink := rfl
@[simp] theorem State.setWindows_faults (t : WindowTable) : (s.setWindows t).faults = s.faults := rfl
@[simp] theorem State.setWindows_notices (t : WindowTable) : (s.setWindows t).notices = s.notices := rfl
@[simp] theorem State.setWindows_pending (t : WindowTable) : (s.setWindows t).pending = s.pending := rfl
@[simp] theorem State.setWindows_line_other (t : WindowTable) (x : WayRef) : (s.setWindows t).line x = s.line x := rfl
@[simp] theorem State.setWindows_victim_other (t : WindowTable) (x : Fin 128) : (s.setWindows t).victim x = s.victim x := rfl
@[simp] theorem State.setWindows_entry_other (t : WindowTable) (x : Fin 12) : (s.setWindows t).entry x = s.entry x := rfl
@[simp] theorem State.setWindows_slot_other (t : WindowTable) (x : Fin 4) : (s.setWindows t).slot x = s.slot x := rfl
@[simp] theorem State.setWindows_stream_other (t : WindowTable) (x : Fin 16) : (s.setWindows t).stream x = s.stream x := rfl
@[simp] theorem State.setWindows_tag_other (t : WindowTable) (x : Fin 32) : (s.setWindows t).tag x = s.tag x := rfl
@[simp] theorem State.setWindows_notice_other (t : WindowTable) (x : Fin 6) : (s.setWindows t).notice x = s.notice x := rfl
@[simp] theorem State.setWindows_linkUp_other (t : WindowTable) : (s.setWindows t).linkUp = s.linkUp := rfl
@[simp] theorem State.setWindows_resetting_other (t : WindowTable) : (s.setWindows t).resetting = s.resetting := rfl
@[simp] theorem State.setWindows_room_other (t : WindowTable) : (s.setWindows t).room = s.room := rfl

/-! ### setArbiter -/

@[simp] theorem State.setArbiter_resetN (p : Fin 16) : (s.setArbiter p).resetN = s.resetN := rfl
@[simp] theorem State.setArbiter_ulink (p : Fin 16) : (s.setArbiter p).ulink = s.ulink := rfl
@[simp] theorem State.setArbiter_streams (p : Fin 16) : (s.setArbiter p).streams = s.streams := rfl
@[simp] theorem State.setArbiter_arbiter (p : Fin 16) : (s.setArbiter p).arbiter = p := rfl
@[simp] theorem State.setArbiter_windows (p : Fin 16) : (s.setArbiter p).windows = s.windows := rfl
@[simp] theorem State.setArbiter_lineStoreOn (p : Fin 16) : (s.setArbiter p).lineStoreOn = s.lineStoreOn := rfl
@[simp] theorem State.setArbiter_store (p : Fin 16) : (s.setArbiter p).store = s.store := rfl
@[simp] theorem State.setArbiter_entries (p : Fin 16) : (s.setArbiter p).entries = s.entries := rfl
@[simp] theorem State.setArbiter_slots (p : Fin 16) : (s.setArbiter p).slots = s.slots := rfl
@[simp] theorem State.setArbiter_engine (p : Fin 16) : (s.setArbiter p).engine = s.engine := rfl
@[simp] theorem State.setArbiter_dlink (p : Fin 16) : (s.setArbiter p).dlink = s.dlink := rfl
@[simp] theorem State.setArbiter_faults (p : Fin 16) : (s.setArbiter p).faults = s.faults := rfl
@[simp] theorem State.setArbiter_notices (p : Fin 16) : (s.setArbiter p).notices = s.notices := rfl
@[simp] theorem State.setArbiter_pending (p : Fin 16) : (s.setArbiter p).pending = s.pending := rfl
@[simp] theorem State.setArbiter_line_other (p : Fin 16) (x : WayRef) : (s.setArbiter p).line x = s.line x := rfl
@[simp] theorem State.setArbiter_victim_other (p : Fin 16) (x : Fin 128) : (s.setArbiter p).victim x = s.victim x := rfl
@[simp] theorem State.setArbiter_entry_other (p : Fin 16) (x : Fin 12) : (s.setArbiter p).entry x = s.entry x := rfl
@[simp] theorem State.setArbiter_slot_other (p : Fin 16) (x : Fin 4) : (s.setArbiter p).slot x = s.slot x := rfl
@[simp] theorem State.setArbiter_stream_other (p : Fin 16) (x : Fin 16) : (s.setArbiter p).stream x = s.stream x := rfl
@[simp] theorem State.setArbiter_tag_other (p : Fin 16) (x : Fin 32) : (s.setArbiter p).tag x = s.tag x := rfl
@[simp] theorem State.setArbiter_notice_other (p : Fin 16) (x : Fin 6) : (s.setArbiter p).notice x = s.notice x := rfl
@[simp] theorem State.setArbiter_linkUp_other (p : Fin 16) : (s.setArbiter p).linkUp = s.linkUp := rfl
@[simp] theorem State.setArbiter_resetting_other (p : Fin 16) : (s.setArbiter p).resetting = s.resetting := rfl
@[simp] theorem State.setArbiter_room_other (p : Fin 16) : (s.setArbiter p).room = s.room := rfl

/-! ### Reading back what an update wrote -/

theorem State.line_setLine (w x : WayRef) (r : LineRecord) :
    (s.setLine w r).line x = if x = w then r else s.line x := by
  obtain ⟨a, b⟩ := w
  obtain ⟨c, d⟩ := x
  simp only [State.line, State.setLine, Fin.getElem_fin, Vector.getElem_set, WayRef.mk.injEq]
  by_cases h1 : a = c
  · subst h1
    by_cases h2 : b = d
    · subst h2; simp
    · have h3 : b.val ≠ d.val := fun h => h2 (Fin.ext h)
      have h4 : ¬ d = b := fun h => h2 h.symm
      simp [h3, h4]
  · have h3 : a.val ≠ c.val := fun h => h1 (Fin.ext h)
    have h4 : ¬ c = a := fun h => h1 h.symm
    simp [h3, h4]

@[simp] theorem State.line_setLine_same (w : WayRef) (r : LineRecord) : (s.setLine w r).line w = r := by
  rw [State.line_setLine]; simp

theorem State.line_setLine_of_ne {w x : WayRef} (h : x ≠ w) (r : LineRecord) :
    (s.setLine w r).line x = s.line x := by
  rw [State.line_setLine]; simp [h]

theorem State.victim_setVictim (c x : Fin 128) (v : Fin 4) :
    (s.setVictim c v).victim x = if x = c then v else s.victim x := by
  simp only [State.victim, State.setVictim, Fin.getElem_fin, Vector.getElem_set]
  by_cases h : c = x
  · subst h; simp
  · have h1 : c.val ≠ x.val := fun e => h (Fin.ext e)
    have h2 : ¬ x = c := fun e => h e.symm
    simp [h1, h2]

@[simp] theorem State.line_setVictim (c : Fin 128) (v : Fin 4) (x : WayRef) : (s.setVictim c v).line x = s.line x := by
  obtain ⟨a, b⟩ := x
  simp only [State.line, State.setVictim, Fin.getElem_fin, Vector.getElem_set]
  by_cases h : c = a
  · subst h; simp
  · have h1 : c.val ≠ a.val := fun e => h (Fin.ext e)
    simp [h1]

@[simp] theorem State.victim_setLine (w : WayRef) (r : LineRecord) (x : Fin 128) :
    (s.setLine w r).victim x = s.victim x := by
  simp only [State.victim, State.setLine, Fin.getElem_fin, Vector.getElem_set]
  by_cases h : w.set = x
  · subst h; simp
  · have h1 : w.set.val ≠ x.val := fun e => h (Fin.ext e)
    simp [h1]

theorem State.entry_setEntry (n x : Fin 12) (e : Option TrackerEntry) :
    (s.setEntry n e).entry x = if x = n then e else s.entry x := by
  simp only [State.entry, State.setEntry, Fin.getElem_fin, Vector.getElem_set]
  by_cases h : n = x
  · subst h; simp
  · have h1 : n.val ≠ x.val := fun q => h (Fin.ext q)
    have h2 : ¬ x = n := fun q => h q.symm
    simp [h1, h2]

@[simp] theorem State.entry_setEntry_same (n : Fin 12) (e : Option TrackerEntry) : (s.setEntry n e).entry n = e := by
  rw [State.entry_setEntry]; simp

theorem State.entry_setEntry_of_ne {n x : Fin 12} (h : x ≠ n) (e : Option TrackerEntry) :
    (s.setEntry n e).entry x = s.entry x := by
  rw [State.entry_setEntry]; simp [h]

theorem State.slot_setSlot (k x : Fin 4) (e : Option EvictionSlot) :
    (s.setSlot k e).slot x = if x = k then e else s.slot x := by
  simp only [State.slot, State.setSlot, Fin.getElem_fin, Vector.getElem_set]
  by_cases h : k = x
  · subst h; simp
  · have h1 : k.val ≠ x.val := fun q => h (Fin.ext q)
    have h2 : ¬ x = k := fun q => h q.symm
    simp [h1, h2]

@[simp] theorem State.slot_setSlot_same (k : Fin 4) (e : Option EvictionSlot) : (s.setSlot k e).slot k = e := by
  rw [State.slot_setSlot]; simp

theorem State.slot_setSlot_of_ne {k x : Fin 4} (h : x ≠ k) (e : Option EvictionSlot) :
    (s.setSlot k e).slot x = s.slot x := by
  rw [State.slot_setSlot]; simp [h]

theorem State.stream_setStream (st x : Fin 16) (r : StreamRecord) :
    (s.setStream st r).stream x = if x = st then r else s.stream x := by
  simp only [State.stream, State.setStream, Fin.getElem_fin, Vector.getElem_set]
  by_cases h : st = x
  · subst h; simp
  · have h1 : st.val ≠ x.val := fun q => h (Fin.ext q)
    have h2 : ¬ x = st := fun q => h q.symm
    simp [h1, h2]

@[simp] theorem State.stream_setStream_same (st : Fin 16) (r : StreamRecord) : (s.setStream st r).stream st = r := by
  rw [State.stream_setStream]; simp

theorem State.stream_setStream_of_ne {st x : Fin 16} (h : x ≠ st) (r : StreamRecord) :
    (s.setStream st r).stream x = s.stream x := by
  rw [State.stream_setStream]; simp [h]

theorem State.tag_setTag (t x : Fin 32) (r : TagRecord) :
    (s.setTag t r).tag x = if x = t then r else s.tag x := by
  simp only [State.tag, State.setTag, Fin.getElem_fin, Vector.getElem_set]
  by_cases h : t = x
  · subst h; simp
  · have h1 : t.val ≠ x.val := fun q => h (Fin.ext q)
    have h2 : ¬ x = t := fun q => h q.symm
    simp [h1, h2]

@[simp] theorem State.tag_setTag_same (t : Fin 32) (r : TagRecord) : (s.setTag t r).tag t = r := by
  rw [State.tag_setTag]; simp

theorem State.tag_setTag_of_ne {t x : Fin 32} (h : x ≠ t) (r : TagRecord) :
    (s.setTag t r).tag x = s.tag x := by
  rw [State.tag_setTag]; simp [h]

theorem State.notice_setNotice (k x : Fin 6) (r : NoticeSource) :
    (s.setNotice k r).notice x = if x = k then r else s.notice x := by
  simp only [State.notice, State.setNotice, Fin.getElem_fin, Vector.getElem_set]
  by_cases h : k = x
  · subst h; simp
  · have h1 : k.val ≠ x.val := fun q => h (Fin.ext q)
    have h2 : ¬ x = k := fun q => h q.symm
    simp [h1, h2]

@[simp] theorem State.notice_setNotice_same (k : Fin 6) (r : NoticeSource) : (s.setNotice k r).notice k = r := by
  rw [State.notice_setNotice]; simp

theorem State.notice_setNotice_of_ne {k x : Fin 6} (h : x ≠ k) (r : NoticeSource) :
    (s.setNotice k r).notice x = s.notice x := by
  rw [State.notice_setNotice]; simp [h]

/-! ### The settings, counters and queues of the D-link under a tag's write -/

@[simp] theorem State.setTag_state (t : Fin 32) (r : TagRecord) : (s.setTag t r).dlink.state = s.dlink.state := rfl
@[simp] theorem State.setTag_signal (t : Fin 32) (r : TagRecord) : (s.setTag t r).dlink.signal = s.dlink.signal := rfl
@[simp] theorem State.setTag_homeId (t : Fin 32) (r : TagRecord) : (s.setTag t r).dlink.homeId = s.dlink.homeId := rfl
@[simp] theorem State.setTag_timeout (t : Fin 32) (r : TagRecord) : (s.setTag t r).dlink.timeout = s.dlink.timeout := rfl
@[simp] theorem State.setTag_retryLimit (t : Fin 32) (r : TagRecord) :
    (s.setTag t r).dlink.retryLimit = s.dlink.retryLimit := rfl
@[simp] theorem State.setTag_tx (t : Fin 32) (r : TagRecord) : (s.setTag t r).dlink.tx = s.dlink.tx := rfl
@[simp] theorem State.setTag_rx (t : Fin 32) (r : TagRecord) : (s.setTag t r).dlink.rx = s.dlink.rx := rfl
@[simp] theorem State.setTag_linkUp (t : Fin 32) (r : TagRecord) : (s.setTag t r).linkUp = s.linkUp := rfl

end Sys2Proof.Machine
end

