-- ==== Sys2Proof/Laws/Closed.lean ====
section
/-! SUPPORT. What a step can do, said once. `Closed P` lists the single writes that the shared operations are made of, each with
the condition under which they make it; one lemma per operation says that it does nothing else, so a property of states
that these writes keep is kept by the operation. -/

namespace Sys2Proof.Machine

open Sys2Proof (Word LineAddr ByteAddr Granule LineData Frame Arrival Instr)

/-- The attempts of an entry are legal (R60, R159). -/
def TrackerEntry.AttemptsOk (e : TrackerEntry) : Prop := e.attempts ≤ 8 ∧ ∀ why, e.phase = .waiting why → e.attempts ≤ 7

/-- What a tracker entry written at number `n` satisfies. -/
structure EntryOk (s : State) (n : Fin 12) (e : TrackerEntry) : Prop where
  parked : s.WithinCapacities → 1 ≤ e.parked.length ∧ e.parked.length ≤ 4
  attempts : s.AttemptsLegal → e.AttemptsOk
  line : s.LinesDistinct → ∀ m a, m ≠ n → s.entry m = some a → a.line ≠ e.line

/-- What a stream record written at number `st` satisfies. -/
structure StreamOk (s : State) (st : Fin 16) (r : StreamRecord) : Prop where
  queue : s.WithinCapacities → r.queue.length ≤ 8 ∧ (s.setStream st r).queuedTotal ≤ 32
  legal : s.StreamsLegal → r.Legal ∧ (st = 0 → r.isOpen = true ∧ r.manage = true)
  outstanding : s.WithinCapacities → r.depth.toNat ≤ 16 ∧ r.outstanding.length ≤ 16

/-- The running action's progress record is within its capacities. -/
def State.EngineOk (s : State) : Prop := ∀ p, s.engine = some p → p.WithinCapacities

/-- A property of states that the single writes of the shared operations keep. -/
structure Closed (P : State → Prop) : Prop where
  line : ∀ s w r, P s → (s.MarksAgree → r.MarksAgree) → P (s.setLine w r)
  victim : ∀ s c v, P s → P (s.setVictim c v)
  entry : ∀ s n e, P s → (∀ e', e = some e' → EntryOk s n e') → P (s.setEntry n e)
  woken : ∀ s f, P s → (∀ e : TrackerEntry, (f e).line = e.line ∧ (f e).parked = e.parked ∧
    (f e).attempts = e.attempts ∧ ((f e).phase = e.phase ∨ (f e).phase = .ending)) →
    P { s with entries := s.entries.map (Option.map f) }
  slot : ∀ s k e, P s → (s.MarksAgree → ∀ sl, e = some sl → sl.MaskAgrees) → P (s.setSlot k e)
  engine : ∀ s p, P s → (s.EngineOk → ∀ q, p = some q → q.WithinCapacities) → P (s.setEngine p)
  tag : ∀ s t r, P s → P (s.setTag t r)
  form : ∀ s p, P s → P (s.form p)
  place : ∀ s f, P s → s.room = true → P (s.place f)
  faults : ∀ s f, P s → (s.faults.entries.length ≤ 8 → f.entries.length ≤ 8) → P (s.setFaults f)
  notice : ∀ s k r, P s → P (s.setNotice k r)
  stream : ∀ s st r, P s → StreamOk s st r → P (s.setStream st r)
  lifted : ∀ s f, P s → (∀ r : StreamRecord, f r = { r with blocked := (f r).blocked }) →
    P { s with streams := s.streams.map f }
  arbiter : ∀ s p, P s → P (s.setArbiter p)

variable {P : State → Prop} {s : State}

/-! ## The progress record -/

theorem WayRef.index_lt (w : WayRef) : w.index < 512 := by
  have h1 := w.set.isLt
  have h2 := w.way.isLt
  unfold WayRef.index
  omega

theorem Progress.reached_le (p : Progress) : p.reached ≤ 512 := by
  have := p.position.index_lt
  unfold Progress.reached
  split <;> omega

/-- What keeps a progress record within its capacities is all that has to be shown of it. -/
theorem Progress.WithinCapacities.of {p : Progress} (ho : p.own.Nodup)
    (hp : p.passedOver.Pairwise fun a b => a.index < b.index) (hb : ∀ w ∈ p.passedOver, w.index < p.reached)
    (hc : p.purged + p.cleaned + p.skipped + p.passedOver.length ≤ p.reached) : p.WithinCapacities := by
  have := p.reached_le
  exact ⟨by simpa using ho.length_le_card, ho, by omega, hp.imp fun h he => by rw [he] at h; exact lt_irrefl _ h,
    by omega, by omega, by omega, hp, hb, hc⟩

/-- A record with the same lists and counts that has reached as far. -/
theorem Progress.WithinCapacities.moved {p q : Progress} (h : p.WithinCapacities) (ho : q.own = p.own)
    (hp : q.passedOver = p.passedOver) (h1 : q.purged = p.purged) (h2 : q.cleaned = p.cleaned) (h3 : q.skipped = p.skipped)
    (hr : p.reached ≤ q.reached) : q.WithinCapacities :=
  .of (by rw [ho]; exact h.ownDistinct) (by rw [hp]; exact h.inOrder)
    (fun w hw => (h.behind w (by rw [← hp]; exact hw)).trans_le hr) (by rw [hp, h1, h2, h3]; exact h.counted.trans hr)

theorem Progress.WithinCapacities.onSlotFreed {p : Progress} (h : p.WithinCapacities) (k : Fin 4) :
    (p.onSlotFreed k).WithinCapacities :=
  .of (h.ownDistinct.filter _) h.inOrder h.behind h.counted

theorem Progress.withinCapacities_start (a : Action) (st : Fin 16) (tag : Fin 64) (l : LineAddr) (x : EnginePhase) :
    (Progress.start a st tag l x).WithinCapacities :=
  .of List.nodup_nil List.Pairwise.nil (fun _ h => by cases h) (Nat.zero_le _)

theorem Progress.WithinCapacities.startPurge {p : Progress} (h : p.WithinCapacities) (hr : p.reached = 0) :
    p.startPurge.WithinCapacities := by
  have hc := h.counted
  rw [hr] at hc
  refine .of h.ownDistinct List.Pairwise.nil (fun _ h => by cases h) ?_
  show p.purged + p.cleaned + p.skipped + 0 ≤ _
  omega

theorem Progress.WithinCapacities.endRevisit {p : Progress} (h : p.WithinCapacities) : p.endRevisit.WithinCapacities := by
  refine h.moved rfl rfl rfl rfl rfl ?_
  have := p.reached_le
  have : p.endRevisit.reached = 512 := by
    unfold Progress.endRevisit Progress.reached
    dsimp only
    split <;> rename_i hx <;> split at hx <;> first | rfl | cases hx
  omega

theorem nextWay_index {w x : WayRef} (h : nextWay w = some x) : x.index = w.index + 1 := by
  obtain ⟨c, v⟩ := w
  unfold nextWay at h
  have hc := c.isLt
  have hv := v.isLt
  split at h
  · rename_i hn
    cases h
    have : (v + 1).val = v.val + 1 := Fin.val_add_one_of_lt (Fin.lt_last_iff_ne_last.2 hn)
    simp only [WayRef.index, this]
    omega
  · rename_i hn
    split at h
    · rename_i hn'
      cases h
      have : (c + 1).val = c.val + 1 := Fin.val_add_one_of_lt (Fin.lt_last_iff_ne_last.2 hn')
      have hv3 : v.val = 3 := by
        have : v = 3 := not_not.1 hn
        rw [this]; rfl
      simp only [WayRef.index, this, hv3]
      show 4 * (c.val + 1) + 0 = _
      omega
    · cases h

/-- A first pass that has treated or passed over the way at its position is within its capacities past it. -/
theorem Progress.WithinCapacities.moveOn {p : Progress} (hx : p.phase = .firstPass ∨ p.phase = .purgeFirstPass)
    (ho : p.own.Nodup) (hp : p.passedOver.Pairwise fun a b => a.index < b.index)
    (hb : ∀ w ∈ p.passedOver, w.index ≤ p.position.index)
    (hc : p.purged + p.cleaned + p.skipped + p.passedOver.length ≤ p.position.index + 1) :
    p.moveOn.WithinCapacities := by
  have hi := p.position.index_lt
  unfold Progress.moveOn
  split
  · rename_i w hw
    have hr : Progress.reached { p with position := w, walkWait := .none, wake := false } = p.position.index + 1 := by
      unfold Progress.reached
      rw [← nextWay_index hw]
      rcases hx with hx | hx <;> simp [hx]
    exact .of ho hp (fun x hx' => by rw [hr]; exact Nat.lt_succ_of_le (hb x hx')) (by rw [hr]; exact hc)
  · have all (q : Progress) (hq : q.reached = 512) (h1 : q.own = p.own) (h2 : q.passedOver = p.passedOver)
        (h3 : q.purged + q.cleaned + q.skipped = p.purged + p.cleaned + p.skipped) : q.WithinCapacities :=
      .of (by rw [h1]; exact ho) (by rw [h2]; exact hp) (fun x hx' => by
        rw [hq]; exact (hb x (by rw [← h2]; exact hx')).trans_lt hi) (by rw [hq, h2, h3]; omega)
    split
    · refine all _ ?_ rfl rfl rfl
      unfold Progress.endRevisit Progress.reached
      dsimp only
      split <;> rename_i hy <;> split at hy <;> first | rfl | cases hy
    · refine all _ ?_ rfl rfl rfl
      unfold Progress.reached
      dsimp only
      split <;> rename_i hy <;> split at hy <;> first | rfl | cases hy

/-- A revisit whose head has been treated or skipped is within its capacities past it. -/
theorem Progress.WithinCapacities.dropHead {p : Progress} (hx : p.reached = 512)
    (ho : p.own.Nodup) (hp : p.passedOver.Pairwise fun a b => a.index < b.index)
    (hc : p.purged + p.cleaned + p.skipped + p.passedOver.tail.length ≤ 512) : p.dropHead.WithinCapacities := by
  have ht : p.passedOver.tail.Pairwise fun a b => a.index < b.index := hp.sublist (List.tail_sublist _)
  unfold Progress.dropHead
  dsimp only
  split
  · refine Progress.WithinCapacities.endRevisit (.of ho List.Pairwise.nil (fun _ h => by cases h) ?_)
    show p.purged + p.cleaned + p.skipped + 0 ≤ p.reached
    omega
  · exact .of ho ht (fun w _ => by show w.index < p.reached; rw [hx]; exact w.index_lt)
      (by show _ ≤ p.reached; rw [hx]; exact hc)

/-! ## Frames of the operations that leave the egress queue alone -/

@[simp] theorem State.form_room (p : BridgePacket) : (s.form p).room = s.room := rfl
@[simp] theorem State.form_entry (p : BridgePacket) (n : Fin 12) : (s.form p).entry n = s.entry n := rfl
@[simp] theorem State.raise_room (k : Fin 6) : (s.raise k).room = s.room := rfl
@[simp] theorem State.raise_entry (k : Fin 6) (n : Fin 12) : (s.raise k).entry n = s.entry n := rfl
@[simp] theorem State.takeTag_entry (t : Fin 32) (o : Owner) (n : Fin 12) : (s.takeTag t o).entry n = s.entry n := rfl

theorem State.log_entry (f : FaultEntry) (n : Fin 12) : (s.log f).entry n = s.entry n := by
  unfold State.log; split <;> rfl

theorem State.log_line (f : FaultEntry) (w : WayRef) : (s.log f).line w = s.line w := by
  unfold State.log; split <;> rfl

theorem State.log_slot (f : FaultEntry) (k : Fin 4) : (s.log f).slot k = s.slot k := by
  unfold State.log; split <;> rfl

theorem State.log_dlink (f : FaultEntry) : (s.log f).dlink = s.dlink := by
  unfold State.log; split <;> rfl

theorem State.log_ulink (f : FaultEntry) : (s.log f).ulink = s.ulink := by
  unfold State.log; split <;> rfl

theorem State.log_room (f : FaultEntry) : (s.log f).room = s.room := by
  unfold State.log; split <;> rfl

theorem State.log_streams (f : FaultEntry) : (s.log f).streams = s.streams := by
  unfold State.log; split <;> rfl

theorem State.log_engine (f : FaultEntry) : (s.log f).engine = s.engine := by
  unfold State.log; split <;> rfl

/-! ## Updates of one entry -/

/-- An entry is written over itself with its line, the number of its parked requests and legal attempts. -/
theorem Closed.update (hP : Closed P) (h : P s) {n : Fin 12} {e e' : TrackerEntry} (he : s.entry n = some e)
    (hl : e'.line = e.line) (hp : e'.parked.length = e.parked.length) (ha : s.AttemptsLegal → e'.AttemptsOk) :
    P (s.setEntry n (some e')) := by
  refine hP.entry _ _ _ h fun x hx => ?_
  cases hx
  refine ⟨fun hc => ?_, ha, fun hd m a hm hma => ?_⟩
  · rw [hp]; exact hc.parked n e he
  · rw [hl]; exact hd m n a e hm hma he

/-- The attempts of an entry in the state are legal. -/
theorem State.AttemptsLegal.ok (ha : s.AttemptsLegal) {n : Fin 12} {e : TrackerEntry} (he : s.entry n = some e) :
    e.AttemptsOk := ⟨ha.attempts n e he, fun why hw => ha.waiting n e why he hw⟩

/-- An entry ends: its attempts stay legal. -/
theorem TrackerEntry.AttemptsOk.ending {e e' : TrackerEntry} (h : e.AttemptsOk) (ha : e'.attempts = e.attempts)
    (hp : e'.phase = .ending) : e'.AttemptsOk :=
  ⟨by rw [ha]; exact h.1, fun why hw => by rw [hp] at hw; cases hw⟩

/-- An entry that may still form an attempt is written waiting. -/
theorem Closed.waits (hP : Closed P) (h : P s) {n : Fin 12} {e : TrackerEntry} (he : s.entry n = some e)
    (ha : s.AttemptsLegal → e.attempts ≤ 7) (why : Reason) : P (s.setEntry n (some (e.wait why))) :=
  hP.update h he rfl rfl fun hl => ⟨Nat.le_succ_of_le (ha hl), fun _ _ => ha hl⟩

/-! ## Faults and notices -/

theorem Closed.raise (hP : Closed P) (h : P s) (k : Fin 6) : P (s.raise k) := hP.notice _ _ _ h

theorem Closed.log (hP : Closed P) (h : P s) (f : FaultEntry) : P (s.log f) := by
  unfold State.log
  split
  · rename_i hlt
    exact hP.raise (hP.faults _ _ h fun _ => by
      have : s.faults.entries.length < 8 := hlt
      simp only [List.length_append, List.length_singleton]; omega) _
  · exact hP.raise (hP.faults _ { s.faults with overflow := satInc s.faults.overflow } h fun hl => hl) _

theorem Closed.placeNotice (hP : Closed P) (h : P s) (k : Fin 6) : P (s.placeNotice k) := by
  unfold State.placeNotice
  dsimp only
  split
  · rename_i hc
    exact hP.place _ _ (hP.notice _ _ _ h) hc.2
  · exact h

theorem foldl_keeps {α : Type} (f : State → α → State) (hf : ∀ s a, P s → P (f s a)) (l : List α) :
    ∀ s, P s → P (l.foldl f s) := by
  induction l with
  | nil => exact fun _ h => h
  | cons a l ih => exact fun s h => ih _ (hf s a h)

theorem Closed.placeNotices (hP : Closed P) (h : P s) : P s.placeNotices :=
  foldl_keeps (P := P) State.placeNotice (fun _ k h => hP.placeNotice h k) _ s h

theorem Closed.announce (hP : Closed P) (before : State) (h : P s) : P (announce before s) := by
  unfold Machine.announce
  split
  · exact hP.placeNotices h
  · exact h

/-! ## Ways -/

theorem LineRecord.MarksAgree.withHolder {r : LineRecord} (h : r.MarksAgree) (x : Holder) :
    LineRecord.MarksAgree { r with holder := x } := h

theorem LineRecord.marksAgree_emptied (r : LineRecord) : r.emptied.MarksAgree := by
  simp [LineRecord.MarksAgree, LineRecord.emptied]

theorem Closed.releaseWay (hP : Closed P) (h : P s) (x : Holder) (w : WayRef) : P (s.releaseWay x w) := by
  unfold State.releaseWay
  split
  · exact hP.line _ _ _ h fun hm => hm.1 w
  · exact h

theorem Closed.emptyWay (hP : Closed P) (h : P s) (w : WayRef) : P (s.setLine w (s.line w).emptied) :=
  hP.line _ _ _ h fun _ => LineRecord.marksAgree_emptied _

theorem touched_ne_zero (a : ByteAddr) (z : Size) : touched a z ≠ 0 := by
  have key : ∀ i : Fin 8, BitVec.ofNat 8 (2 ^ i.val) ≠ 0 := by decide
  unfold touched
  split
  · decide
  · exact key _

theorem or_ne_zero_right {n : Nat} {a b : BitVec n} (h : b ≠ 0) : a ||| b ≠ 0 := by
  intro hz
  apply h
  have hb : (a ||| b) &&& b = b := by
    ext i hi
    simp only [BitVec.getElem_and, BitVec.getElem_or]
    cases a[i] <;> cases b[i] <;> rfl
  rw [hz] at hb
  simpa using hb.symm

theorem LineRecord.marksAgree_writeHit (r : LineRecord) (q : Request) : (r.writeHit q).MarksAgree := by
  simp only [LineRecord.MarksAgree, LineRecord.writeHit, true_iff]
  exact or_ne_zero_right (touched_ne_zero _ _)

theorem Closed.hit (hP : Closed P) (h : P s) (r : Request) : P (s.hit r) := by
  unfold State.hit
  split
  · split
    · exact hP.line _ _ _ h fun _ => LineRecord.marksAgree_writeHit _ _
    · exact h
  · exact h

theorem Closed.storeThrough (hP : Closed P) (h : P s) (k : EntryKind) (r : Request) : P (s.storeThrough k r) := by
  unfold State.storeThrough
  split
  · exact hP.line _ _ _ h fun hm => hm.1 _
  · exact h

theorem State.storeThrough_entry (k : EntryKind) (r : Request) (n : Fin 12) :
    (s.storeThrough k r).entry n = s.entry n := by
  unfold State.storeThrough; split <;> rfl

theorem State.storeThrough_room (k : EntryKind) (r : Request) : (s.storeThrough k r).room = s.room := by
  unfold State.storeThrough; split <;> rfl

theorem State.hit_room (r : Request) : (s.hit r).room = s.room := by
  unfold State.hit; repeat' split
  all_goals rfl

theorem State.hit_entry (r : Request) (n : Fin 12) : (s.hit r).entry n = s.entry n := by
  unfold State.hit; repeat' split
  all_goals rfl

theorem State.releaseWay_entry (x : Holder) (w : WayRef) (n : Fin 12) : (s.releaseWay x w).entry n = s.entry n := by
  unfold State.releaseWay; split <;> rfl

theorem Closed.reserveWay (hP : Closed P) (h : P s) (n : Fin 12) (w : WayRef) (m : Bool) :
    P (s.reserveWay n w m) := by
  unfold State.reserveWay
  dsimp only
  have h1 : P (s.setLine w { (s.line w).emptied with holder := .entry n }) :=
    hP.line _ _ _ h fun _ => LineRecord.marksAgree_emptied (s.line w)
  split
  · exact hP.victim _ _ _ h1
  · exact h1

theorem State.reserveWay_entry (n m : Fin 12) (w : WayRef) (b : Bool) : (s.reserveWay n w b).entry m = s.entry m := by
  unfold State.reserveWay; cases b <;> rfl

/-! ## Slots -/

theorem EvictionSlot.maskAgrees_parked {n : Fin 12} {w : WayRef} {r : LineRecord} (hr : r.MarksAgree)
    (hs : r.state = .owned ∨ r.state = .modified) :
    (EvictionSlot.ofLine (if r.state = .modified then .putback else .release) (.parked n) w r).MaskAgrees := by
  rcases hs with hs | hs
  · simp [EvictionSlot.MaskAgrees, EvictionSlot.ofLine, hs]
  · have := hr.1 hs
    simp_all [EvictionSlot.MaskAgrees, EvictionSlot.ofLine]

theorem EvictionSlot.maskAgrees_evicted {w : WayRef} {r : LineRecord} (hr : r.MarksAgree) :
    (EvictionSlot.ofLine (if r.state = .modified then .putback else .release) .queued w r).MaskAgrees := by
  by_cases hs : r.state = .modified
  · have := hr.1 hs
    simp_all [EvictionSlot.MaskAgrees, EvictionSlot.ofLine]
  · simp [EvictionSlot.MaskAgrees, EvictionSlot.ofLine, hs]

theorem EvictionSlot.maskAgrees_flush {w : WayRef} {r : LineRecord} (hr : r.MarksAgree) (hs : r.state = .modified) :
    (EvictionSlot.ofLine .flush .queued w r).MaskAgrees := by
  have := hr.1 hs
  simp_all [EvictionSlot.MaskAgrees, EvictionSlot.ofLine]

theorem EvictionSlot.maskAgrees_dropped (w : WayRef) (r : LineRecord) :
    (EvictionSlot.ofLine .release .queued w r).MaskAgrees := by
  simp [EvictionSlot.MaskAgrees, EvictionSlot.ofLine]

/-- A slot keeps its mask's agreement through a change of state that is not to PARKED, and of its counts. -/
theorem EvictionSlot.MaskAgrees.moved {sl sl' : EvictionSlot} (h : sl.MaskAgrees) (hk : sl'.kind = sl.kind)
    (hm : sl'.mask = sl.mask) (hp : ∀ n, sl'.state ≠ .parked n) : sl'.MaskAgrees :=
  ⟨by rw [hk, hm]; exact h.1, fun n hn => absurd hn (hp n)⟩

theorem EvictionSlot.marksAgree_restored {sl : EvictionSlot} (h : sl.MaskAgrees) {n : Fin 12}
    (hs : sl.state = .parked n) : sl.restored.MarksAgree := by
  rcases h.2 n hs with ⟨hk, ho⟩ | ⟨hk, ho⟩
  · have hz : sl.mask ≠ 0 := fun hz => by have := h.1.2 hz; rw [hk] at this; cases this
    exact ⟨fun _ => hz, fun _ => ho⟩
  · have hz : sl.mask = 0 := h.1.1 hk
    exact ⟨fun hs => by simp [EvictionSlot.restored, ho] at hs, fun hs => absurd hz hs⟩

theorem Closed.evictInto (hP : Closed P) (h : P s) (k : Fin 4) (w : WayRef) : P (s.evictInto k w) := by
  unfold State.evictInto
  exact hP.line _ _ _ (hP.slot _ _ _ h fun hm sl hsl => by
    cases hsl; exact EvictionSlot.maskAgrees_evicted (hm.1 w)) fun _ => LineRecord.marksAgree_emptied _

theorem Closed.flushInto (hP : Closed P) (h : P s) (k : Fin 4) (w : WayRef) (hs : (s.line w).state = .modified) :
    P (s.flushInto k w) := by
  unfold State.flushInto
  exact hP.line _ _ _ (hP.slot _ _ _ h fun hm sl hsl => by
    cases hsl; exact EvictionSlot.maskAgrees_flush (hm.1 w) hs) fun _ => by simp [LineRecord.MarksAgree]

theorem Closed.dropInto (hP : Closed P) (h : P s) (k : Fin 4) (w : WayRef) : P (s.dropInto k w) := by
  unfold State.dropInto
  exact hP.line _ _ _ (hP.slot _ _ _ h fun _ sl hsl => by
    cases hsl; exact EvictionSlot.maskAgrees_dropped _ _) fun _ => LineRecord.marksAgree_emptied _

theorem TrackerEntry.onSlotFreed_keeps (s : State) (l : LineAddr) (e : TrackerEntry) :
    (e.onSlotFreed s l).line = e.line ∧ (e.onSlotFreed s l).parked = e.parked ∧
      (e.onSlotFreed s l).attempts = e.attempts ∧
      ((e.onSlotFreed s l).phase = e.phase ∨ (e.onSlotFreed s l).phase = .ending) := by
  unfold TrackerEntry.onSlotFreed
  split
  · split <;> simp
  · rename_i hp; simp [hp]
  · simp

theorem Closed.releaseSlot (hP : Closed P) (h : P s) (k : Fin 4) : P (s.releaseSlot k) := by
  unfold State.releaseSlot
  split
  · exact h
  · rename_i sl _
    dsimp only
    have h1 : P (s.setSlot k none) := hP.slot _ _ _ h fun _ sl hsl => by cases hsl
    have h2 : P (if sl.kind = .flush then (s.setSlot k none).releaseWay (.slot k) sl.origin else s.setSlot k none) := by
      split
      · exact hP.releaseWay h1 _ _
      · exact h1
    refine hP.engine _ _ (hP.woken _ _ h2 fun e => TrackerEntry.onSlotFreed_keeps _ _ e) fun he q hq => ?_
    obtain ⟨p, hp, rfl⟩ := Option.map_eq_some_iff.1 hq
    exact (he p hp).onSlotFreed k

theorem Closed.restoreVictim (hP : Closed P) (h : P s) (k : Fin 4) : P (s.restoreVictim k) := by
  unfold State.restoreVictim
  split
  · exact h
  · rename_i sl hsl
    split
    · rename_i n hn
      exact hP.releaseSlot (hP.line _ _ _ h fun hm => EvictionSlot.marksAgree_restored (hm.2 k sl hsl) hn) k
    · exact h

/-! ## Final failure -/

theorem Closed.failWay (hP : Closed P) (h : P s) (e : TrackerEntry) : P (s.failWay e) := by
  unfold State.failWay
  split
  · exact h
  · split
    · rename_i w _ _
      exact hP.line _ _ _ h fun _ => LineRecord.marksAgree_emptied (s.line w)
    · rename_i w _ _
      exact hP.line _ w _ h fun hm => hm.1 w

theorem Closed.failStored (hP : Closed P) (h : P s) (e : TrackerEntry) : P (s.failStored e) := by
  unfold State.failStored
  split
  · split
    · split
      · exact hP.emptyWay h _
      · exact h
    · exact h
  · exact h

theorem Closed.failFinal (hP : Closed P) (h : P s) (n : Fin 12) (m : FailMark) (r : Option HomeReason) :
    P (s.failFinal n m r) := by
  unfold State.failFinal
  split
  · exact h
  · rename_i e he
    dsimp only
    have h1 := hP.log h (failureFault e m r)
    have he1 : (s.log (failureFault e m r)).entry n = some e := by rw [State.log_entry]; exact he
    have h2 := hP.update h1 he1 (e' := { e with
      phase := .ending, way := none, victim := none, converted := false, answer := .none, storedShared := false
      parked := e.parked.map (Request.markFailed m) }) rfl (by simp) fun ha => (ha.ok he1).ending rfl rfl
    have h3 := hP.failStored (hP.failWay h2 e) e
    split
    · exact hP.restoreVictim h3 _
    · exact h3

/-! ## Issue and step 4 -/

theorem Closed.takeTag (hP : Closed P) (h : P s) (t : Fin 32) (o : Owner) : P (s.takeTag t o) := hP.tag _ _ _ h

theorem State.AttemptsLegal.of_takeTag {t : Fin 32} {o : Owner} (h : (s.takeTag t o).AttemptsLegal) :
    s.AttemptsLegal := ⟨h.timeout, h.retryLimit, h.attempts, h.waiting⟩

theorem Closed.issue (hP : Closed P) (h : P s) (n : Fin 12) (t : Fin 32)
    (ha : ∀ e, s.entry n = some e → s.AttemptsLegal → e.attempts ≤ 7) : P (s.issue n t) := by
  unfold State.issue
  split
  · exact h
  · rename_i e he
    dsimp only
    have h1 := hP.update (hP.takeTag h t (.entry n)) (e := e) he
      (e' := { e with phase := .issued t, attempts := e.attempts + 1, lastTag := some t }) rfl rfl fun hl =>
        ⟨Nat.succ_le_succ (ha e he hl.of_takeTag), fun why hw => by cases hw⟩
    split
    · exact hP.form _ _ h1
    · exact h1

theorem Closed.step4 (hP : Closed P) (h : P s) (n : Fin 12)
    (ha : ∀ e, s.entry n = some e → s.AttemptsLegal → e.attempts ≤ 7) : P (s.step4 n) := by
  unfold State.step4
  split
  · exact h
  · rename_i e he
    split
    · split
      · exact hP.issue h _ _ ha
      · exact hP.waits h he (ha e he) _
    · exact hP.failFinal h _ _ _

/-- An entry that waits may still form an attempt. -/
theorem State.attempts_of_waiting {n : Fin 12} (hw : ∀ e, s.entry n = some e → ∃ why, e.phase = .waiting why) :
    ∀ e, s.entry n = some e → s.AttemptsLegal → e.attempts ≤ 7 := fun e he hl =>
  let ⟨why, hp⟩ := hw e he
  hl.waiting n e why he hp

theorem Closed.endSlotNotSent (hP : Closed P) (h : P s) : P s.endSlotNotSent := by
  refine foldl_keeps (P := P) (fun s n => if s.sentOrFreed n then s.step4 n else s) (fun s n h => ?_) _ s h
  split
  · rename_i hs
    refine hP.step4 h n (State.attempts_of_waiting fun e he => ?_)
    unfold State.sentOrFreed at hs
    rw [he] at hs
    simp only [Bool.and_eq_true, beq_iff_eq] at hs
    exact ⟨_, hs.1⟩
  · exact h

/-- An entry whose SLOT-NOT-SENT wait has ended keeps its attempts. -/
theorem Closed.reachStep4 (hP : Closed P) (h : P s) (n : Fin 12) : P (s.reachStep4 n) := by
  unfold State.reachStep4
  split
  · rename_i e he
    split
    · rename_i hs
      unfold State.sentOrFreed at hs
      rw [he] at hs
      simp only [Bool.and_eq_true, beq_iff_eq] at hs
      exact hP.waits h he (fun hl => hl.waiting n e _ he hs.1) _
    · exact h
  · exact h

theorem Closed.sendSlot (hP : Closed P) (h : P s) (k : Fin 4) (t : Fin 32) : P (s.sendSlot k t) := by
  unfold State.sendSlot
  split
  · exact h
  · rename_i sl hsl
    dsimp only
    have h1 := hP.form _ (sl.packet t) (hP.slot _ k (some { sl with
      state := .sending t, attempts := sl.nextAttempts, stallReported := sl.stallReported || s.stalls sl })
      (hP.takeTag h t (.slot k)) fun hm x hx => by
        cases hx
        exact (hm.2 k sl hsl).moved rfl rfl fun n hn => by cases hn)
    split
    · exact hP.raise (hP.log h1 _) _
    · exact h1

theorem Closed.askTag (hP : Closed P) (h : P s) (k : Fin 4) : P (s.askTag k) := by
  unfold State.askTag
  repeat' split
  all_goals first
    | exact h
    | exact hP.sendSlot h _ _

theorem Closed.queueSlot (hP : Closed P) (h : P s) (k : Fin 4) : P (s.queueSlot k) :=
  hP.endSlotNotSent (hP.askTag h k)

theorem Closed.requeueSlot (hP : Closed P) (h : P s) (k : Fin 4) : P (s.requeueSlot k) := by
  unfold State.requeueSlot
  split
  · rename_i sl hsl
    exact hP.queueSlot (hP.slot _ _ _ h fun hm x hx => by
      cases hx
      exact (hm.2 k sl hsl).moved rfl rfl fun n hn => by cases hn) k
  · exact h

/-! ## The steps before issue -/

theorem Closed.victimStep (hP : Closed P) (h : P s) (n : Fin 12)
    (hw : ∀ e, s.entry n = some e → ∃ why, e.phase = .waiting why) : P (s.victimStep n) := by
  unfold State.victimStep
  split
  · exact h
  · rename_i e he
    have ha := State.attempts_of_waiting hw e he
    obtain ⟨why, hphase⟩ := hw e he
    split
    · exact hP.waits h he ha _
    · rename_i v moves _
      dsimp only
      have step : ∀ (s' : State) (e' : TrackerEntry), P s' → s'.entry n = some e → e'.line = e.line →
          e'.parked.length = e.parked.length → e'.attempts = e.attempts → e'.phase = e.phase →
          P ((s'.setEntry n (some e')).step4 n) := by
        intro s' e' h' he' hl hp hat hph
        refine hP.step4 (hP.update h' he' hl hp fun hlg => ?_) n fun x hx hlg => ?_
        · have := hlg.ok he'
          exact ⟨by rw [hat]; exact this.1, fun y hy => by rw [hat]; exact this.2 y (by rw [← hph]; exact hy)⟩
        · rw [State.entry_setEntry_same] at hx
          cases hx
          exact hlg.waiting n _ why (State.entry_setEntry_same ..) (by rw [hph, hphase])
      split
      · rename_i hst
        split
        · exact hP.waits h he ha _
        · rename_i k _
          refine step _ _ (hP.reserveWay (hP.slot _ k _ h fun hm x hx => ?_) n _ _) ?_ rfl rfl rfl rfl
          · cases hx
            exact EvictionSlot.maskAgrees_parked (hm.1 _) hst
          · rw [State.reserveWay_entry]; exact he
      · refine step _ _ (hP.reserveWay h n _ _) ?_ rfl rfl rfl rfl
        rw [State.reserveWay_entry]; exact he

theorem Closed.evictStep (hP : Closed P) (h : P s) (n : Fin 12)
    (hw : ∀ e, s.entry n = some e → ∃ why, e.phase = .waiting why) : P (s.evictStep n) := by
  unfold State.evictStep
  split
  · exact h
  · rename_i e he
    have ha := State.attempts_of_waiting hw
    obtain ⟨why, hphase⟩ := hw e he
    split
    · exact hP.step4 h n ha
    · rename_i w _
      dsimp only
      split
      · split
        · exact hP.waits h he (ha e he) _
        · rename_i k _
          refine hP.queueSlot (hP.waits (hP.evictInto h k w) ?_ (fun hl => ?_) _) k
          · exact he
          · exact hl.waiting n e why he hphase
      · exact hP.step4 (hP.emptyWay h w) n fun x hx hl => hl.waiting n x why hx (by
          have : x = e := Option.some.inj (hx.symm.trans he)
          rw [this]; exact hphase)

theorem State.holdUpgrade_entry (n : Fin 12) {e : TrackerEntry} (he : s.entry n = some e) :
    ∃ x, (s.holdUpgrade n).entry n = some x ∧ x.phase = e.phase ∧ x.attempts = e.attempts := by
  unfold State.holdUpgrade
  rw [he]
  dsimp only
  split
  · exact ⟨e, he, rfl, rfl⟩
  · exact ⟨_, State.entry_setEntry_same .., rfl, rfl⟩

theorem Closed.holdUpgrade (hP : Closed P) (h : P s) (n : Fin 12) : P (s.holdUpgrade n) := by
  unfold State.holdUpgrade
  split
  · exact h
  · rename_i e he
    split
    · exact h
    · rename_i w _
      exact hP.update (hP.line s w { s.line w with holder := .entry n } h fun hm => hm.1 w) (e := e) he rfl rfl
        fun hl => ⟨hl.attempts n e he, fun why => hl.waiting n e why he⟩

theorem Closed.step1 (hP : Closed P) (h : P s) (n : Fin 12)
    (hw : ∀ e, s.entry n = some e → ∃ why, e.phase = .waiting why) : P (s.step1 n) := by
  unfold State.step1
  split
  · exact h
  · rename_i e he
    have ha := State.attempts_of_waiting hw
    split
    · exact hP.waits h he (ha e he) _
    · split
      · refine hP.step4 (hP.holdUpgrade h n) n (State.attempts_of_waiting fun x hx => ?_)
        obtain ⟨y, hy, hp, _⟩ := State.holdUpgrade_entry n he
        obtain ⟨why, hph⟩ := hw e he
        rw [hy] at hx
        cases hx
        exact ⟨why, by rw [hp, hph]⟩
      · exact hP.evictStep h n hw
      · exact hP.step4 h n ha
      · exact hP.step4 h n ha
      · split
        · exact hP.step4 h n ha
        · exact hP.victimStep h n hw
      · split
        · exact hP.step4 h n ha
        · exact hP.victimStep h n hw

theorem State.entryNaming_none {l : LineAddr} (h : s.entryNaming l = none) {m : Fin 12} {a : TrackerEntry}
    (ha : s.entry m = some a) : a.line ≠ l := by
  unfold State.entryNaming at h
  rw [List.find?_eq_none] at h
  have := h m (List.mem_finRange m)
  rw [ha] at this
  simpa using this

theorem Closed.createEntry (hP : Closed P) (h : P s) (n : Fin 12) (k : EntryKind) (r : Request)
    (hn : s.entryNaming r.line = none) : P (s.createEntry n k r) := by
  unfold State.createEntry
  dsimp only
  refine hP.step1 (hP.entry _ _ _ (hP.storeThrough h k r) fun x hx => ?_) n fun x hx => ?_
  · cases hx
    refine ⟨fun _ => by simp, fun _ => ⟨by simp, fun _ _ => by simp⟩, fun _ m a _ hma => ?_⟩
    rw [State.storeThrough_entry] at hma
    exact State.entryNaming_none hn hma
  · rw [State.entry_setEntry_same] at hx
    cases hx
    exact ⟨_, rfl⟩

theorem Closed.turnWay (hP : Closed P) (h : P s) (n : Fin 12) (e : TrackerEntry) (k : EntryKind) :
    P (s.turnWay n e k).1 := by
  unfold State.turnWay
  split <;> first | exact hP.releaseWay h _ _ | exact h

theorem State.turnWay_entry (n : Fin 12) (e : TrackerEntry) (k : EntryKind) (m : Fin 12) :
    (s.turnWay n e k).1.entry m = s.entry m := by
  unfold State.turnWay
  split <;> first | exact State.releaseWay_entry _ _ _ | rfl

theorem Closed.turnEntry (hP : Closed P) (h : P s) (n : Fin 12) (k : EntryKind) (r : Request) :
    P (s.turnEntry n k r) := by
  unfold State.turnEntry
  split
  · exact h
  · rename_i e he
    dsimp only
    refine hP.step1 (hP.update (hP.turnWay (hP.storeThrough h k r) n e k) (e := e) (e' := { e with
      kind := k, phase := .waiting .lineInSlot, way := ((s.storeThrough k r).turnWay n e k).2, attempts := 0
      converted := false, storedShared := s.storesThrough k r, answer := .none, wake := false })
      ?_ rfl rfl fun _ => ⟨Nat.zero_le _, fun _ _ => Nat.zero_le _⟩) n fun x hx => ?_
    · rw [State.turnWay_entry, State.storeThrough_entry]; exact he
    · rw [State.entry_setEntry_same] at hx
      cases hx
      exact ⟨_, rfl⟩

theorem Closed.failAttempt (hP : Closed P) (h : P s) (n : Fin 12) : P (s.failAttempt n) := by
  unfold State.failAttempt
  split
  · exact h
  · rename_i e he
    split
    · rename_i hlt
      refine hP.step4 h n fun x hx hl => ?_
      rw [he] at hx
      cases hx
      have := hl.retryLimit
      omega
    · exact hP.failFinal h _ _ _

theorem Closed.freeEntryAt (hP : Closed P) (h : P s) (n : Fin 12) : P (s.freeEntryAt n) := by
  unfold State.freeEntryAt
  split
  · exact h
  · rename_i e he
    dsimp only
    refine hP.lifted _ _ (hP.entry _ _ _ ?_ fun x hx => by cases hx) fun r => rfl
    split
    · exact hP.releaseWay h _ _
    · exact h

end Sys2Proof.Machine
end

