-- ==== Sys2Proof/Laws/ClosedSteps.lean ====
section
/-! SUPPORT. What a command can do, said once: every command's meaning is made of the writes of `Closed` and of the few writes
that `ClosedRun` adds, so a property that all of them keep is kept by every command. -/

namespace Sys2Proof.Machine

open Sys2Proof (Word LineAddr ByteAddr Granule LineData Frame Arrival Instr)

/-- The writes beside those of `Closed` that commands make: to the ports, the window table, the control and the CLEAR values. -/
structure ClosedRun (P : State → Prop) : Prop extends Closed P where
  ulink : ∀ s u, P s → u.egress.length ≤ s.ulink.egress.length → P (s.setULink u)
  dlink : ∀ s d, P s → (s.AttemptsLegal → d.timeout ≠ 0 ∧ d.retryLimit.toNat ≤ 7) → P (s.setDLink d)
  windows : ∀ s t, P s → (s.windows.Sorted → t.Sorted) →
    (s.windows.active.length ≤ 24 → t.active.length ≤ 24) → P (s.setWindows t)
  control : ∀ s b, P s → P { s with lineStoreOn := b }
  notices : ∀ s v, P s → P { s with notices := v }
  clear : ∀ s p, P s → P (s.clear p)

variable {P : State → Prop} {s : State}

/-! ## Stream records -/

theorem State.queuedTotal_eq (s : State) : s.queuedTotal = ∑ st : Fin 16, (s.stream st).queue.length := by
  rw [Fin.sum_univ_def]; rfl

/-- Writing one stream record changes the pool by the difference of the two queues. -/
theorem State.queuedTotal_setStream (s : State) (st : Fin 16) (r : StreamRecord) :
    (s.setStream st r).queuedTotal + (s.stream st).queue.length = s.queuedTotal + r.queue.length := by
  rw [State.queuedTotal_eq, State.queuedTotal_eq]
  rw [← Finset.add_sum_erase _ (fun x => ((s.setStream st r).stream x).queue.length) (Finset.mem_univ st),
    ← Finset.add_sum_erase _ (fun x => (s.stream x).queue.length) (Finset.mem_univ st)]
  have : ∑ x ∈ Finset.univ.erase st, ((s.setStream st r).stream x).queue.length =
      ∑ x ∈ Finset.univ.erase st, (s.stream x).queue.length :=
    Finset.sum_congr rfl fun x hx => by rw [State.stream_setStream_of_ne _ (Finset.ne_of_mem_erase hx)]
  rw [this, State.stream_setStream_same]
  omega

/-- A record is legal again when its queue is no longer and its outstanding set is part of the old one. -/
theorem StreamOk.shrunk {st : Fin 16} {r : StreamRecord} (hq : r.queue.length ≤ (s.stream st).queue.length)
    (ho : r.outstanding.Sublist (s.stream st).outstanding) (hd : r.depth = (s.stream st).depth)
    (hs : r.isOpen = (s.stream st).isOpen) (hm : r.manage = (s.stream st).manage) : StreamOk s st r where
  queue hc := by
    have h1 := hc.queue st
    have h2 := hc.pool
    have h3 := s.queuedTotal_setStream st r
    omega
  legal hl := by
    have h1 := hl.legal st
    refine ⟨⟨by rw [hd]; exact h1.depthLow, by rw [hd]; exact h1.depthHigh, h1.distinct.sublist ho,
      ho.length_le.trans h1.few⟩, fun h0 => ?_⟩
    subst h0
    exact ⟨hs.trans hl.zeroOpen, hm.trans hl.zeroManage⟩
  outstanding hc := ⟨by rw [hd]; exact hc.depth st, ho.length_le.trans (hc.outstanding st)⟩

theorem Closed.complete (hP : Closed P) (h : P s) (hr : s.room = true) (st : Fin 16) (tag : Fin 64) (x : Status)
    (ws : List Word) : P (s.complete st tag x ws) := by
  unfold State.complete
  exact hP.place _ _ (hP.stream _ _ _ h
    (.shrunk (Nat.le_refl _) List.erase_sublist rfl rfl rfl)) hr

theorem Closed.take (hP : Closed P) (h : P s) (st : Fin 16) : P (s.take st) := by
  unfold State.take
  refine hP.arbiter _ _ (hP.stream _ _ _ h (.shrunk ?_ (List.Sublist.refl _) rfl rfl rfl))
  simp

@[simp] theorem State.take_room (st : Fin 16) : (s.take st).room = s.room := rfl
@[simp] theorem State.take_entry (st : Fin 16) (n : Fin 12) : (s.take st).entry n = s.entry n := rfl
@[simp] theorem State.take_entryNaming (st : Fin 16) (l : LineAddr) : (s.take st).entryNaming l = s.entryNaming l := rfl
@[simp] theorem State.addOutstanding_room (st : Fin 16) (t : Fin 64) : (s.addOutstanding st t).room = s.room := rfl
@[simp] theorem State.addOutstanding_entry (st : Fin 16) (t : Fin 64) (n : Fin 12) :
    (s.addOutstanding st t).entry n = s.entry n := rfl
@[simp] theorem State.addOutstanding_entryNaming (st : Fin 16) (t : Fin 64) (l : LineAddr) :
    (s.addOutstanding st t).entryNaming l = s.entryNaming l := rfl

theorem State.take_outstanding (st x : Fin 16) : ((s.take st).stream x).outstanding = (s.stream x).outstanding := by
  show ((s.setStream st _).stream x).outstanding = _
  rw [State.stream_setStream]
  split <;> simp_all

theorem State.take_depth (st x : Fin 16) : ((s.take st).stream x).depth = (s.stream x).depth := by
  show ((s.setStream st _).stream x).depth = _
  rw [State.stream_setStream]
  split <;> simp_all

/-- What admission finds of the stream of a head it admits: the tag is new and the count below the depth (R107, R111). -/
def State.Admits (s : State) (st : Fin 16) (tag : Fin 64) : Prop :=
  tag ∉ (s.stream st).outstanding ∧ (s.stream st).outstanding.length < (s.stream st).depth.toNat

theorem State.Admits.take {st : Fin 16} {tag : Fin 64} (h : s.Admits st tag) (x : Fin 16) : (s.take x).Admits st tag := by
  unfold State.Admits
  rw [State.take_outstanding, State.take_depth]
  exact h

theorem Closed.addOutstanding (hP : Closed P) (h : P s) {st : Fin 16} {tag : Fin 64} (ha : s.Admits st tag) :
    P (s.addOutstanding st tag) := by
  unfold State.addOutstanding
  refine hP.stream _ _ _ h ⟨fun hc => ?_, fun hl => ?_, fun hc => ⟨hc.depth st, ?_⟩⟩
  · have h1 := hc.queue st
    have h2 := hc.pool
    have h3 := s.queuedTotal_setStream st
      { s.stream st with outstanding := (s.stream st).outstanding ++ [tag] }
    simp only at h3 ⊢
    omega
  · have h1 := hl.legal st
    refine ⟨⟨h1.depthLow, h1.depthHigh, ?_, ?_⟩, fun h0 => ?_⟩
    · exact List.nodup_append.2 ⟨h1.distinct, by simp, fun a ha' b hb => by
        simp only [List.mem_singleton] at hb
        subst hb
        exact fun hab => ha.1 (hab ▸ ha')⟩
    · have := ha.2
      have := h1.depthHigh
      simp only [List.length_append, List.length_singleton]
      omega
    · subst h0
      exact ⟨hl.zeroOpen, hl.zeroManage⟩
  · have h1 := hc.depth st
    have h2 := ha.2
    simp only [List.length_append, List.length_singleton]
    omega

/-! ## The engine -/

theorem Closed.finish (hP : Closed P) (h : P s) {p : Progress} (hp : s.EngineOk → p.WithinCapacities) : P (s.finish p) := by
  unfold State.finish
  split
  · rename_i hr
    exact hP.complete (s := s.setEngine none) (hP.engine _ _ h fun _ _ hq => by cases hq) hr _ _ _ _
  · exact hP.engine _ _ h fun he q hq => by cases hq; exact (hp he).moved rfl rfl rfl rfl rfl p.reached_le

theorem ClosedRun.advance (hP : ClosedRun P) (h : P s) : P s.advance := by
  unfold State.advance
  split
  · exact h
  · rename_i p hp
    have ok : s.EngineOk → p.WithinCapacities := fun he => he p hp
    have purge (h0 : p.reached = 0) : P (s.setEngine (some p.startPurge)) :=
      hP.engine _ _ h fun he q hq => by cases hq; exact (ok he).startPurge h0
    have goOn (h0 : p.reached = 0) (x : EnginePhase) : P (s.setEngine (some { p with phase := x })) :=
      hP.engine _ _ h fun he q hq => by cases hq; exact (ok he).moved rfl rfl rfl rfl rfl (by omega)
    split
    · split
      · exact hP.toClosed.finish h ok
      · exact h
    · rename_i hx
      have h0 : p.reached = 0 := by unfold Progress.reached; rw [hx]
      repeat' split
      all_goals first
        | exact h
        | exact purge h0
        | exact goOn h0 _
    · rename_i hx
      have h0 : p.reached = 0 := by unfold Progress.reached; rw [hx]
      repeat' split
      all_goals first
        | exact h
        | exact purge h0
        | exact goOn h0 _
    · split
      · exact hP.toClosed.finish (s := s.clear p) (hP.clear _ _ h) ok
      · exact h
    · exact h

theorem Closed.noteOpening (hP : Closed P) (h : P s) : P s.noteOpening := by
  unfold State.noteOpening
  split
  · rename_i p hp
    split
    · exact hP.engine _ _ h fun he q hq => by cases hq; exact (he p hp).moved rfl rfl rfl rfl rfl (Nat.le_refl _)
    · exact h
  · exact h

theorem ClosedRun.wrapUp (hP : ClosedRun P) (before : State) (h : P s) : P (wrapUp before s) :=
  hP.toClosed.announce _ (hP.advance (hP.toClosed.noteOpening h))

theorem Closed.fillForLine (hP : Closed P) (h : P s) (p : Progress) (k : Fin 4) (w : WayRef)
    (hs : p.action = .lineClean → (s.line w).state = .modified) : P (s.fillForLine p k w) := by
  unfold State.fillForLine
  split
  · rename_i ha
    exact hP.flushInto h k w (hs ha)
  · exact hP.evictInto h k w
  · split
    · exact hP.log (hP.dropInto h k w) _
    · exact hP.dropInto h k w

theorem lineTreatment_fill_clean {f : LineState} {o : LineOutcome} (h : lineTreatment .lineClean f = .fill o) :
    f = .modified := by
  cases f <;> simp [lineTreatment] at h ⊢

theorem Closed.lineStep (hP : Closed P) (h : P s) {p : Progress} (hp : s.EngineOk → p.WithinCapacities)
    (hx : p.phase = .waitLine ∨ p.phase = .waitSlot) : P (s.lineStep p) := by
  have hr : p.reached = 512 := by unfold Progress.reached; rcases hx with hx | hx <;> rw [hx]
  unfold State.lineStep
  split
  · exact hP.finish h fun he => (hp he).moved rfl rfl rfl rfl rfl (Nat.le_refl _)
  · rename_i w _
    split
    · exact hP.engine _ _ h fun he q hq => by
        cases hq; exact (hp he).moved rfl rfl rfl rfl rfl (p.reached_le.trans (Nat.le_refl _))
    · dsimp only
      split
      · exact hP.finish h fun he => (hp he).moved rfl rfl rfl rfl rfl (Nat.le_refl _)
      · exact hP.finish (hP.emptyWay h w) fun he => (hp he).moved rfl rfl rfl rfl rfl (Nat.le_refl _)
      · rename_i o ho
        split
        · exact hP.engine _ _ h fun he q hq => by cases hq; exact (hp he).moved rfl rfl rfl rfl rfl p.reached_le
        · rename_i k _
          refine hP.queueSlot (hP.fillForLine (hP.engine _ _ h fun he q hq => ?_) _ k w fun ha => ?_) k
          · cases hq
            exact .of (List.nodup_singleton k) (hp he).inOrder
              (fun w' hw => ((hp he).behind w' hw).trans_le p.reached_le) ((hp he).counted.trans p.reached_le)
          · have ha' : p.action = .lineClean := ha
            rw [ha'] at ho
            exact lineTreatment_fill_clean ho

theorem State.treatment_clean {a : Action} {w : WayRef} (h : s.treatment a w = .clean) :
    (s.line w).state = .modified := by
  unfold State.treatment at h
  split at h
  · split at h
    · assumption
    · cases h
  · unfold sweepTreatment at h
    split at h
    · cases h
    · split at h <;> first | assumption | cases h
  · cases h

/-- What a visit may change of a progress record before it moves on: its slots, still without duplicates, and its counts, by
one at most (R137). -/
structure Progress.Treated (p q : Progress) : Prop where
  phase : q.phase = p.phase
  position : q.position = p.position
  passedOver : q.passedOver = p.passedOver
  own : q.own.Nodup
  counts : q.purged + q.cleaned + q.skipped ≤ p.purged + p.cleaned + p.skipped + 1

theorem Progress.treated_countPurge {p : Progress} (h : p.own.Nodup) : p.Treated p.countPurge := by
  unfold Progress.countPurge
  split
  · exact ⟨rfl, rfl, rfl, h, Nat.le_succ _⟩
  · exact ⟨rfl, rfl, rfl, h, by show p.purged + 1 + p.cleaned + p.skipped ≤ _; omega⟩

/-- A slot that a visit fills joins the own-slot set. -/
theorem Progress.Treated.fill {p q : Progress} (h : p.Treated q) (hp : p.own.Nodup) (k : Fin 4) :
    p.Treated { q with own := p.own.insert k } := ⟨h.phase, h.position, h.passedOver, hp.insert, h.counts⟩

theorem Closed.visitOpen (hP : Closed P) (h : P s) {p : Progress} (w : WayRef) {next : Progress → Progress}
    (hp : s.EngineOk → p.own.Nodup) (hn : s.EngineOk → ∀ q, p.Treated q → (next q).WithinCapacities)
    (hw : s.EngineOk → ({ p with position := w, walkWait := .slot, wake := false } : Progress).WithinCapacities) :
    P (s.visitOpen p w next) := by
  have same (he : s.EngineOk) : p.Treated p := ⟨rfl, rfl, rfl, hp he, Nat.le_succ _⟩
  have purged (he : s.EngineOk) : p.Treated p.countPurge := Progress.treated_countPurge (hp he)
  have moved {f : Progress} (hf : s.EngineOk → p.Treated f) : P (s.setEngine (some (next f))) :=
    hP.engine _ _ h fun he q hq => by cases hq; exact hn he _ (hf he)
  have waits : P (s.setEngine (some { p with position := w, walkWait := .slot, wake := false })) :=
    hP.engine _ _ h fun he q hq => by cases hq; exact hw he
  unfold State.visitOpen
  dsimp only
  split
  · exact moved same
  · split
    · exact moved same
    · rename_i hc
      split
      · exact waits
      · rename_i k _
        refine hP.queueSlot (hP.flushInto (moved fun he => ?_) _ w ?_) _
        · exact (show p.Treated { p with cleaned := p.cleaned + 1 } from
            ⟨rfl, rfl, rfl, hp he, by show p.purged + (p.cleaned + 1) + p.skipped ≤ _; omega⟩).fill (hp he) k
        · exact State.treatment_clean hc
    · split
      · exact hP.line _ w _ (moved purged) fun _ => LineRecord.marksAgree_emptied _
      · split
        · exact waits
        · rename_i k _
          exact hP.queueSlot (hP.evictInto (moved fun he => (purged he).fill (hp he) k) _ w) _

theorem Closed.firstPassVisit (hP : Closed P) (h : P s) {p : Progress} (hp : s.EngineOk → p.WithinCapacities)
    (hx : p.phase = .firstPass ∨ p.phase = .purgeFirstPass) : P (s.firstPassVisit p) := by
  have hr : p.reached = p.position.index := by unfold Progress.reached; rcases hx with hx | hx <;> rw [hx]
  unfold State.firstPassVisit
  split
  · refine hP.engine _ _ h fun he q hq => ?_
    cases hq
    have ok := hp he
    have hb := ok.behind
    have hc := ok.counted
    rw [hr] at hb hc
    refine Progress.WithinCapacities.moveOn hx ok.ownDistinct ?_ (fun w hw => ?_) ?_
    · refine List.pairwise_append.2 ⟨ok.inOrder, List.pairwise_singleton _ _, fun a ha b hb' => ?_⟩
      rw [List.mem_singleton.1 hb']
      exact hb a ha
    · rcases List.mem_append.1 hw with hw | hw
      · exact Nat.le_of_lt (hb w hw)
      · rw [List.mem_singleton.1 hw]
    · simp only [List.length_append, List.length_singleton]
      omega
  · refine hP.visitOpen h _ (fun he => (hp he).ownDistinct) (fun he q hq => ?_) fun he =>
      (hp he).moved rfl rfl rfl rfl rfl (Nat.le_refl _)
    have ok := hp he
    have hb := ok.behind
    have hc := ok.counted
    have hq5 := hq.counts
    rw [hr] at hb hc
    refine Progress.WithinCapacities.moveOn (by rw [hq.phase]; exact hx) hq.own (by rw [hq.passedOver]; exact ok.inOrder)
      (fun w hw => ?_) ?_
    · rw [hq.position]
      exact Nat.le_of_lt (hb w (by rw [← hq.passedOver]; exact hw))
    · rw [hq.position, hq.passedOver]
      omega

theorem Closed.revisit (hP : Closed P) (h : P s) {p : Progress} (hp : s.EngineOk → p.WithinCapacities)
    (hx : p.phase = .revisit ∨ p.phase = .purgeRevisit) : P (s.revisit p) := by
  have hr (q : Progress) (hq : q.phase = p.phase) : q.reached = 512 := by
    unfold Progress.reached
    rw [hq]
    rcases hx with hx | hx <;> rw [hx]
  have moved (he : s.EngineOk) (w : WayRef) (x : WalkWait) :
      ({ p with position := w, walkWait := x, wake := false } : Progress).WithinCapacities :=
    (hp he).moved rfl rfl rfl rfl rfl (by
      rw [hr p rfl]
      refine Nat.le_of_eq (hr _ ?_).symm
      rfl)
  have dropped (he : s.EngineOk) {w : WayRef} {rest : List WayRef} (hl : p.passedOver = w :: rest) (q : Progress)
      (hq : p.Treated q) : q.dropHead.WithinCapacities := by
    have hc := (hp he).counted
    have hq5 := hq.counts
    rw [hr p rfl, hl, List.length_cons] at hc
    refine .dropHead (hr q hq.phase) hq.own (by rw [hq.passedOver]; exact (hp he).inOrder) ?_
    rw [hq.passedOver, hl, List.tail_cons]
    omega
  unfold State.revisit
  split
  · exact hP.engine _ _ h fun he q hq => by cases hq; exact (hp he).endRevisit
  · rename_i w rest hl
    split
    · split
      · exact hP.engine _ _ h fun he q hq => by cases hq; exact moved he _ _
      · refine hP.engine _ _ h fun he q hq => ?_
        cases hq
        exact dropped he hl _ ⟨rfl, rfl, rfl, (hp he).ownDistinct, Nat.le_refl _⟩
    · exact hP.visitOpen h _ (fun he => (hp he).ownDistinct) (fun he q hq => dropped he hl q hq) fun he => moved he _ _

/-! ## Admission -/

theorem Closed.refuse (hP : Closed P) (h : P s) (hr : s.room = true) (st : Fin 16) (q : QueuedFrame) (x : Status) :
    P (s.refuse st q x) := hP.place _ _ (hP.take h st) hr

theorem Closed.leave (hP : Closed P) (h : P s) (st : Fin 16) (b : Blocked) : P (s.leave st b) :=
  hP.stream _ _ _ h (.shrunk (Nat.le_refl _) (List.Sublist.refl _) rfl rfl rfl)

theorem State.commonCheck_none {st : Fin 16} {q : QueuedFrame} (h : s.commonCheck st q = none) :
    (s.stream st).isOpen = true ∧ q.formOk = true ∧ q.tag ∉ (s.stream st).outstanding ∧
      ¬ (q.isMgmt = true ∧ (s.stream st).manage = false) := by
  unfold State.commonCheck at h
  dsimp only at h
  repeat' split at h
  all_goals simp_all

/-- The head found is the head of its stream's queue, and the record satisfies the test. -/
theorem State.firstHead_some {ok : StreamRecord → Bool} {st : Fin 16} {q : QueuedFrame}
    (h : s.firstHead ok = some (st, q)) : (s.stream st).queue.head? = some q ∧ ok (s.stream st) = true := by
  unfold State.firstHead at h
  obtain ⟨x, _, hx⟩ := List.exists_of_findSome?_eq_some h
  split at hx
  · rename_i q' rest hq
    split at hx
    · rename_i hok
      cases hx
      exact ⟨by rw [hq]; rfl, hok⟩
    · cases hx
  · cases hx

theorem State.selected_some {st : Fin 16} {q : QueuedFrame} (h : s.selected = some (st, q)) :
    s.room = true ∧ s.resetting = false ∧ (s.stream st).queue.head? = some q ∧ (s.stream st).eligible = true := by
  unfold State.selected at h
  split at h
  · rename_i hc
    exact ⟨hc.1, hc.2, State.firstHead_some h⟩
  · cases h

theorem StreamRecord.eligible_lt {r : StreamRecord} (h : r.eligible = true) : r.outstanding.length < r.depth.toNat := by
  simp only [StreamRecord.eligible, Bool.and_eq_true, decide_eq_true_eq] at h
  exact h.1.1

theorem State.admits_of_selected {st : Fin 16} {q : QueuedFrame} (h : s.selected = some (st, q))
    (hc : s.commonCheck st q = none) : s.Admits st q.tag :=
  ⟨(State.commonCheck_none hc).2.2.1, StreamRecord.eligible_lt (State.selected_some h).2.2.2⟩

theorem Closed.park (hP : Closed P) (h : P s) {st : Fin 16} (n : Fin 12) {r : Request} (ha : s.Admits st r.tag) :
    P (s.park st n r) := by
  unfold State.park
  split
  · exact h
  · rename_i e he
    split
    · rename_i hlt
      refine hP.entry _ _ _ (hP.addOutstanding (hP.take h st) (ha.take st)) fun x hx => ?_
      cases hx
      refine ⟨fun hc => ?_, fun hl => ⟨hl.attempts n e he, fun why => hl.waiting n e why he⟩,
        fun hd m a hm hma => hd m n a e hm hma he⟩
      have : e.parked.length < 4 := hlt
      simp only [List.length_append, List.length_singleton]
      omega
    · exact hP.leave h _ _

theorem Closed.dispatchAccess (hP : Closed P) (h : P s) (hr : s.room = true) {st : Fin 16} (q : QueuedFrame)
    {r : Request} (ha : s.Admits st r.tag) : P (s.dispatchAccess st q r) := by
  unfold State.dispatchAccess
  split
  · exact hP.park h _ ha
  · rename_i hn
    split
    · exact hP.place _ _ (hP.hit (hP.take h st) r) (by rw [State.hit_room]; exact hr)
    · split
      · exact hP.refuse h hr _ _ _
      · split
        · exact hP.createEntry (hP.addOutstanding (hP.take h st) (ha.take st)) _ _ _ (by simpa using hn)
        · exact hP.leave h _ _

theorem Closed.admitAccess (hP : Closed P) (h : P s) {st : Fin 16} {q : QueuedFrame}
    (hs : s.selected = some (st, q)) : P (State.admitAccess st q s) := by
  have hr := (State.selected_some hs).1
  unfold State.admitAccess
  split
  · exact hP.refuse h hr _ _ _
  · rename_i hc
    dsimp only
    split
    · exact hP.announce _ (hP.log (hP.refuse h hr _ _ _) _)
    · exact hP.dispatchAccess h hr q (State.admits_of_selected hs hc)

theorem Closed.admitting (hP : P s) (row : HeadRow) {f : Fin 16 → QueuedFrame → State → State}
    (hf : ∀ st q, s.selected = some (st, q) → P (f st q s)) : P (s.admitting row f) := by
  unfold State.admitting
  split
  · rename_i st q hs
    split
    · exact hf st q hs
    · exact hP
  · exact hP

/-- A running command: high or low, it answers the state it ends in. -/
theorem whileRunning_keeps {f : State → State} (h : P s) (hf : P s → P (f s)) {t : State}
    (ht : whileRunning s f = .next t) : P t := by
  unfold whileRunning at ht
  cases ht
  split
  · exact hf h
  · exact h

theorem Closed.execRead (hP : Closed P) (h : P s) {t : State} (ht : execRead s = .next t) : P t :=
  whileRunning_keeps h (fun h => Closed.admitting h _ fun _ _ hs => hP.admitAccess h hs) ht

theorem Closed.execWrite (hP : Closed P) (h : P s) {t : State} (ht : execWrite s = .next t) : P t :=
  whileRunning_keeps h (fun h => Closed.admitting h _ fun _ _ hs => hP.admitAccess h hs) ht

theorem ClosedRun.execResettingRefusal (hP : ClosedRun P) (h : P s) {t : State}
    (ht : execResettingRefusal s = .next t) : P t := by
  refine whileRunning_keeps h (fun h => ?_) ht
  split
  · rename_i st q hs
    unfold State.selectedForRefusal at hs
    split at hs
    · rename_i hc
      exact hP.advance (hP.toClosed.refuse h hc.1 _ _ _)
    · cases hs
  · exact h

theorem Closed.execMalformedRefusal (hP : Closed P) (h : P s) {t : State} (ht : execMalformedRefusal s = .next t) :
    P t := by
  refine whileRunning_keeps h (fun h => Closed.admitting h _ fun st q hs => ?_) ht
  have hr := (State.selected_some hs).1
  unfold State.refuseMalformed
  split <;> exact hP.refuse h hr _ _ _

/-! ## Management -/

/-- A management row: refused, or taken from its queue with a place free and its tag new, and then done. -/
theorem Closed.admitMgmt (hP : Closed P) (h : P s) (row : HeadRow) {f : Fin 16 → QueuedFrame → State → State}
    (hf : ∀ st q s', P s' → s'.room = true → s'.Admits st q.tag → P (f st q s')) : P (s.admitMgmt row f) := by
  refine Closed.admitting h _ fun st q hs => ?_
  have hr := (State.selected_some hs).1
  split
  · exact hP.refuse h hr _ _ _
  · rename_i hc
    exact hf st q _ (hP.take h st) hr ((State.admits_of_selected hs hc).take st)

theorem Closed.answer (hP : Closed P) (h : P s) (hr : s.room = true) (st : Fin 16) (q : QueuedFrame) (x : Status)
    (ws : List Word) : P (s.answer st q x ws) := hP.place _ _ h hr

theorem Closed.execMgmtRead (hP : Closed P) (h : P s) {t : State} (ht : execMgmtRead s = .next t) : P t :=
  whileRunning_keeps h (fun h => hP.admitMgmt h _ fun _ _ _ h hr _ => hP.answer h hr _ _ _ _) ht

/-- A written stream record is legal and keeps the queue and the outstanding set (R101). -/
theorem writtenStream_some {st : Fin 16} {r x : StreamRecord} {w : Word} (h : writtenStream st r w = some x) :
    x.queue = r.queue ∧ x.outstanding = r.outstanding ∧ 1 ≤ x.depth.toNat ∧ x.depth.toNat ≤ 16 ∧
      (st = 0 → x.isOpen = true ∧ x.manage = true) := by
  unfold writtenStream at h
  dsimp only at h
  split at h
  · cases h
  · split at h
    · cases h
    · rename_i hd
      split at h
      · cases h
      · rename_i h0
        cases h
        refine ⟨rfl, rfl, ?_, ?_, fun hz => ?_⟩
        · simp only [not_or] at hd
          have := hd.1
          rcases Nat.eq_zero_or_pos (field w 8 5).toNat with hz | hz
          · exact absurd (BitVec.eq_of_toNat_eq (by simpa using hz)) this
          · exact hz
        · simp only [not_or] at hd
          exact Nat.le_of_not_lt hd.2
        · subst hz
          simp only [true_and, not_or] at h0
          simpa using h0

theorem Closed.execStreamRecordWrite (hP : Closed P) (h : P s) {t : State} (ht : execStreamRecordWrite s = .next t) :
    P t := by
  refine whileRunning_keeps h (fun h => hP.admitMgmt h _ fun st q s' h hr _ => ?_) ht
  dsimp only
  split
  · rename_i r hw
    obtain ⟨h1, h2, h3, h4, h5⟩ := writtenStream_some hw
    refine hP.answer (hP.stream _ _ _ h ⟨fun hc => ?_, fun hl => ?_, fun hc => ⟨h4, ?_⟩⟩) hr _ _ _ _
    · have hq := hc.queue (Fin.ofNat 16 q.index)
      have hp := hc.pool
      have := s'.queuedTotal_setStream (Fin.ofNat 16 q.index) r
      rw [h1] at this ⊢
      omega
    · have := hl.legal (Fin.ofNat 16 q.index)
      exact ⟨⟨h3, h4, by rw [h2]; exact this.distinct, by rw [h2]; exact this.few⟩, h5⟩
    · rw [h2]
      exact hc.outstanding _
  · exact hP.answer h hr _ _ _ _

/-- The staging copy is written; the active copy is not. -/
theorem ClosedRun.staging (hP : ClosedRun P) (h : P s) (v : Vector WindowRecord 24) :
    P (s.setWindows { s.windows with staging := v }) := hP.windows _ _ h (fun x => x) fun x => x

theorem ClosedRun.execStagingWindowWrite (hP : ClosedRun P) (h : P s) {t : State}
    (ht : execStagingWindowWrite s = .next t) : P t := by
  refine whileRunning_keeps h (fun h => hP.toClosed.admitMgmt h _ fun st q s' h hr _ => ?_) ht
  have hset : ∀ k r, P (s'.setStaging k r) := fun k r => hP.staging h _
  dsimp only
  split
  · exact hP.toClosed.answer (hset _ _) hr _ _ _ _
  · split
    · exact hP.toClosed.answer (hset _ _) hr _ _ _ _
    · exact hP.toClosed.answer h hr _ _ _ _

theorem ClosedRun.execLineStoreControlWrite (hP : ClosedRun P) (h : P s) {t : State}
    (ht : execLineStoreControlWrite s = .next t) : P t :=
  whileRunning_keeps h (fun h => hP.toClosed.admitMgmt h _ fun _ q s' h hr _ =>
    hP.toClosed.answer (s := { s' with lineStoreOn := flag q.value 0 }) (hP.control _ _ h) hr _ _ _ _) ht

theorem Closed.execNoticeSourceWrite (hP : Closed P) (h : P s) {t : State} (ht : execNoticeSourceWrite s = .next t) :
    P t :=
  whileRunning_keeps h (fun h => hP.admitMgmt h _ fun _ _ _ h hr _ =>
    hP.announce _ (hP.answer (hP.notice _ _ _ h) hr _ _ _ _)) ht

theorem ClosedRun.execMgmtWrite (hP : ClosedRun P) (h : P s) {t : State} (ht : execMgmtWrite s = .next t) : P t := by
  refine whileRunning_keeps h (fun h => hP.toClosed.admitMgmt h _ fun st q s' h hr _ => ?_) ht
  dsimp only
  split
  · split
    · exact hP.toClosed.answer h hr _ _ _ _
    · rename_i hv
      refine hP.toClosed.answer ?_ ?_ _ _ _ _
      · exact hP.dlink _ _ h fun hl => ⟨hv, hl.retryLimit⟩
      · exact hr
  · split
    · exact hP.toClosed.answer h hr _ _ _ _
    · rename_i hv
      refine hP.toClosed.answer ?_ ?_ _ _ _ _
      · exact hP.dlink _ _ h fun hl => ⟨hl.timeout, Nat.le_of_not_lt hv⟩
      · exact hr

theorem ClosedRun.execStagingReload (hP : ClosedRun P) (h : P s) {t : State} (ht : execStagingReload s = .next t) :
    P t := by
  refine whileRunning_keeps h (fun h => hP.toClosed.admitMgmt h _ fun st q s' h hr _ => ?_) ht
  refine hP.toClosed.answer ?_ ?_ _ _ _ _
  · exact hP.staging h _
  · rw [State.setWindows_room_other]
    exact hr

theorem ClosedRun.execNoticeClear (hP : ClosedRun P) (h : P s) {t : State} (ht : execNoticeClear s = .next t) :
    P t := by
  refine whileRunning_keeps h (fun h => hP.toClosed.admitMgmt h _ fun st q s' h hr _ => ?_) ht
  split
  · exact hP.toClosed.answer h hr _ _ _ _
  · refine hP.toClosed.answer ?_ ?_ _ _ _ _
    · exact hP.notices _ _ h
    · exact hr

theorem Closed.execFaultTake (hP : Closed P) (h : P s) {t : State} (ht : execFaultTake s = .next t) : P t := by
  refine whileRunning_keeps h (fun h => hP.admitMgmt h _ fun st q s' h hr _ => ?_) ht
  dsimp only
  split
  · exact hP.answer h hr _ _ _ _
  · rename_i hl
    refine hP.answer ?_ ?_ _ _ _ _
    · refine hP.faults _ _ h fun hle => ?_
      rw [hl] at hle
      exact Nat.le_of_succ_le hle
    · exact hr

/-! ## The downstream link -/

/-- A write of the D-link record that keeps the settings. -/
theorem ClosedRun.dlinkKept (hP : ClosedRun P) (h : P s) {d : DLink} (h1 : d.timeout = s.dlink.timeout)
    (h2 : d.retryLimit = s.dlink.retryLimit) : P (s.setDLink d) :=
  hP.dlink _ _ h fun hl => ⟨by rw [h1]; exact hl.timeout, by rw [h2]; exact hl.retryLimit⟩

theorem DLink.receive_settings (d : DLink) (a : Arrival) :
    (d.receive a).timeout = d.timeout ∧ (d.receive a).retryLimit = d.retryLimit := by
  unfold DLink.receive
  repeat' split
  all_goals exact ⟨rfl, rfl⟩

theorem ClosedRun.startTraining (hP : ClosedRun P) (h : P s) : P s.startTraining :=
  hP.form _ _ (hP.dlinkKept h rfl rfl)

theorem Closed.downSlot (hP : Closed P) (h : P s) (k : Fin 4) : P (s.downSlot k) := by
  unfold State.downSlot
  split
  · exact h
  · rename_i sl hsl
    split
    · exact hP.releaseSlot h k
    · exact h
    · rename_i hns _
      split
      · rename_i hk
        refine hP.releaseSlot (hP.line _ _ _ h fun hm => ?_) k
        have hm' := hm.2 k sl hsl
        have : sl.mask ≠ 0 := fun hz => by have := hm'.1.2 hz; rw [hk] at this; cases this
        exact ⟨fun _ => or_ne_zero_right this, fun _ => rfl⟩
      · exact hP.slot _ _ _ h fun hm x hx => by
          cases hx
          exact (hm.2 k sl hsl).moved rfl rfl fun n hn => by cases hn

theorem ClosedRun.downEvent (hP : ClosedRun P) (h : P s) : P s.downEvent := by
  unfold State.downEvent
  dsimp only
  refine hP.toClosed.raise ?_ _
  refine foldl_keeps (P := P) State.downSlot (fun _ k h => hP.toClosed.downSlot h k) _ _ ?_
  exact foldl_keeps (P := P) (fun s n => s.failFinal n .linkDown none)
    (fun _ n h => hP.toClosed.failFinal h n _ _) _ _ (hP.dlinkKept h rfl rfl)

theorem ClosedRun.linkComesUp (hP : ClosedRun P) (h : P s) (i : BitVec 16) : P (s.linkComesUp i) := by
  unfold State.linkComesUp
  dsimp only
  refine foldl_keeps (P := P) State.reachStep4 (fun _ n h => hP.toClosed.reachStep4 h n) _ _ ?_
  refine foldl_keeps (P := P) State.askTag (fun _ k h => hP.toClosed.askTag h k) _ _ (hP.toClosed.raise ?_ _)
  exact hP.dlinkKept h rfl rfl

theorem ClosedRun.takeHelloAck (hP : ClosedRun P) (h : P s) (n : BitVec 8) (i : BitVec 16) : P (s.takeHelloAck n i) := by
  unfold State.takeHelloAck
  split
  · split
    · exact hP.linkComesUp h i
    · refine hP.toClosed.raise ?_ _
      exact hP.dlinkKept h rfl rfl
  · exact h

/-- The reception of a D-link row: a property that its writes and the row's effect keep. -/
theorem ClosedRun.takePacket (hP : ClosedRun P) (h : P s) (a : Arrival) {f : HomePacket → Option (State → State)}
    (hf : ∀ p g s', f p = some g → P s' → P (g s')) : P (s.takePacket a f) := by
  unfold State.takePacket
  dsimp only
  have h1 : P (s.setDLink (s.dlink.receive a)) :=
    hP.dlinkKept h (s.dlink.receive_settings a).1 (s.dlink.receive_settings a).2
  split
  · rename_i g hg
    obtain ⟨p, _, hp⟩ := Option.bind_eq_some_iff.1 hg
    exact hf p g _ hp (hP.dlinkKept h1 rfl rfl)
  · exact h1

theorem ClosedRun.execHelloAck (hP : ClosedRun P) (h : P s) {a : Arrival} {t : State}
    (ht : execHelloAck a s = .next t) : P t := by
  refine whileRunning_keeps h (fun h => hP.takePacket h a fun p g s' hg h => ?_) ht
  split at hg
  · cases hg
    exact hP.wrapUp _ (hP.takeHelloAck h _ _)
  · cases hg

theorem ClosedRun.execDLinkBadFrame (hP : ClosedRun P) (h : P s) {a : Arrival} {t : State}
    (ht : execDLinkBadFrame a s = .next t) : P t := by
  refine whileRunning_keeps h (fun h => ?_) ht
  have h1 : P (s.setDLink (s.dlink.receive a)) :=
    hP.dlinkKept h (s.dlink.receive_settings a).1 (s.dlink.receive_settings a).2
  dsimp only
  split
  · split
    · exact hP.dlinkKept (hP.dlinkKept h1 rfl rfl) rfl rfl
    · exact h1
  · exact h1

theorem ClosedRun.execSignalPresent (hP : ClosedRun P) (h : P s) {t : State} (ht : execSignalPresent s = .next t) :
    P t := by
  refine whileRunning_keeps h (fun h => ?_) ht
  have h1 : P (s.setDLink { s.dlink with signal := true }) := hP.dlinkKept h rfl rfl
  dsimp only
  split
  · exact hP.startTraining h1
  · exact h1

theorem ClosedRun.execSignalLost (hP : ClosedRun P) (h : P s) {t : State} (ht : execSignalLost s = .next t) : P t := by
  refine whileRunning_keeps h (fun h => ?_) ht
  have h1 : P (s.setDLink s.dlink.discard) := hP.dlinkKept h rfl rfl
  dsimp only
  split
  · split
    · exact hP.wrapUp _ (hP.downEvent h1)
    · exact hP.dlinkKept h1 rfl rfl
    · exact h1
  · exact h

theorem ClosedRun.execTrainingTimerExpiry (hP : ClosedRun P) (h : P s) {t : State}
    (ht : execTrainingTimerExpiry s = .next t) : P t := by
  refine whileRunning_keeps h (fun h => ?_) ht
  split
  · exact hP.startTraining h
  · exact h

theorem Closed.execStaleWindowEnd (hP : Closed P) (h : P s) {n : Fin 32} {t : State}
    (ht : execStaleWindowEnd n s = .next t) : P t := by
  refine whileRunning_keeps h (fun h => ?_) ht
  split
  · exact hP.tag _ _ _ h
  · exact h

theorem ClosedRun.execDLinkPacketSent (hP : ClosedRun P) (h : P s) {t : State}
    (ht : execDLinkPacketSent s = .next t) : P t := by
  refine whileRunning_keeps h (fun h => ?_) ht
  split
  · split
    · exact hP.dlinkKept h rfl rfl
    · exact h
  · exact h

/-! ## Replies -/

theorem Closed.installReply (hP : Closed P) (h : P s) (e : TrackerEntry) (p : HomePacket) : P (s.installReply e p) := by
  have hi : ∀ (r : LineRecord) l x d, x ≠ .modified → (r.install l x d).MarksAgree := fun r l x d hx =>
    ⟨fun hs => absurd hs hx, fun hm => absurd rfl hm⟩
  unfold State.installReply
  split
  · exact hP.line _ _ _ h fun _ => hi _ _ _ _ (by decide)
  · exact hP.line _ _ _ h fun _ => hi _ _ _ _ (by decide)
  · exact hP.line _ _ _ h fun _ => hi _ _ _ _ (by decide)
  · exact h

theorem State.installReply_entry (e : TrackerEntry) (p : HomePacket) (n : Fin 12) :
    (s.installReply e p).entry n = s.entry n := by
  unfold State.installReply
  split <;> rfl

theorem Closed.releaseVictim (hP : Closed P) (h : P s) (k : Fin 4) : P (s.releaseVictim k) := by
  unfold State.releaseVictim
  split
  · rename_i sl hsl
    split
    · exact hP.queueSlot (hP.slot _ _ _ h fun hm x hx => by
        cases hx
        exact (hm.2 k sl hsl).moved rfl rfl fun n hn => by cases hn) k
    · exact h
  · exact h

theorem Closed.succeed (hP : Closed P) (h : P s) (n : Fin 12) (p : HomePacket) : P (s.succeed n p) := by
  unfold State.succeed
  split
  · exact h
  · rename_i e he
    dsimp only
    have h1 : P ((s.installReply e p).setEntry n
        (some { e with phase := .ending, victim := none, answer := e.answerOf p })) := by
      refine hP.update (hP.installReply h e p) (e := e) ?_ rfl rfl fun hl => ?_
      · rw [State.installReply_entry]; exact he
      · have he' : (s.installReply e p).entry n = some e := by rw [State.installReply_entry]; exact he
        exact (hl.ok he').ending rfl rfl
    split
    · exact hP.releaseVictim h1 _
    · exact h1

theorem Closed.entryReply (hP : Closed P) (h : P s) (n : Fin 12) (t : Fin 32) (p : HomePacket) :
    P (s.entryReply n t p) := by
  unfold State.entryReply
  split
  · exact h
  · split
    · exact hP.succeed h _ _
    · exact hP.failAttempt (hP.log h _) _

theorem Closed.failSlotAttempt (hP : Closed P) (h : P s) (k : Fin 4) : P (s.failSlotAttempt k) := by
  unfold State.failSlotAttempt
  split
  · exact h
  · split
    · exact hP.requeueSlot h k
    · exact hP.releaseSlot h k
    · exact h

theorem Closed.slotReply (hP : Closed P) (h : P s) (k : Fin 4) (t : Fin 32) (p : HomePacket) : P (s.slotReply k t p) := by
  unfold State.slotReply
  split
  · exact h
  · split
    · exact hP.releaseSlot h k
    · exact hP.failSlotAttempt (hP.log h _) k

theorem Closed.slotError (hP : Closed P) (h : P s) (k : Fin 4) (t : Fin 32) (r : HomeReason) : P (s.slotError k t r) := by
  unfold State.slotError
  split
  · exact h
  · exact hP.failSlotAttempt (hP.log h _) k

theorem Closed.actReply (hP : Closed P) (h : P s) (t : Fin 32) (p : HomePacket) (o : Owner) :
    P (State.actReply t p o s) := by
  unfold State.actReply
  split
  · exact hP.entryReply h _ _ _
  · exact hP.slotReply h _ _ _

theorem Closed.actFailed (hP : Closed P) (h : P s) (o : Owner) : P (State.actFailed o s) := by
  unfold State.actFailed
  split
  · exact hP.failAttempt h _
  · exact hP.failSlotAttempt h _

theorem Closed.actError (hP : Closed P) (h : P s) (t : Fin 32) (r : HomeReason) (o : Owner) :
    P (State.actError t r o s) := by
  unfold State.actError
  split
  · exact hP.failFinal h _ _ _
  · exact hP.slotError h _ _ _

theorem ClosedRun.sortReply (hP : ClosedRun P) (h : P s) (t : Fin 32) (u : FaultEntry) {act : Owner → State → State}
    (ha : ∀ o s', P s' → P (act o s')) : P (s.sortReply t u act) := by
  unfold State.sortReply
  split
  · split
    · exact hP.wrapUp _ (ha _ _ (hP.tag _ _ _ h))
    · exact hP.dlinkKept h rfl rfl
    · refine hP.toClosed.announce _ (hP.toClosed.log ?_ _)
      exact hP.dlinkKept h rfl rfl
  · exact hP.dlinkKept h rfl rfl

theorem ClosedRun.execDataS (hP : ClosedRun P) (h : P s) {a : Arrival} {t : State} (ht : execDataS a s = .next t) :
    P t := by
  refine whileRunning_keeps h (fun h => hP.takePacket h a fun p g s' hg h => ?_) ht
  split at hg
  · cases hg
    exact hP.sortReply h _ _ fun o _ h => hP.toClosed.actReply h _ _ o
  · cases hg

theorem ClosedRun.execDataO (hP : ClosedRun P) (h : P s) {a : Arrival} {t : State} (ht : execDataO a s = .next t) :
    P t := by
  refine whileRunning_keeps h (fun h => hP.takePacket h a fun p g s' hg h => ?_) ht
  split at hg
  · cases hg
    exact hP.sortReply h _ _ fun o _ h => hP.toClosed.actReply h _ _ o
  · cases hg

theorem ClosedRun.execGrant (hP : ClosedRun P) (h : P s) {a : Arrival} {t : State} (ht : execGrant a s = .next t) :
    P t := by
  refine whileRunning_keeps h (fun h => hP.takePacket h a fun p g s' hg h => ?_) ht
  split at hg
  · cases hg
    exact hP.sortReply h _ _ fun o _ h => hP.toClosed.actReply h _ _ o
  · cases hg

theorem ClosedRun.execWordData (hP : ClosedRun P) (h : P s) {a : Arrival} {t : State}
    (ht : execWordData a s = .next t) : P t := by
  refine whileRunning_keeps h (fun h => hP.takePacket h a fun p g s' hg h => ?_) ht
  split at hg
  · cases hg
    exact hP.sortReply h _ _ fun o _ h => hP.toClosed.actReply h _ _ o
  · cases hg

theorem ClosedRun.execDone (hP : ClosedRun P) (h : P s) {a : Arrival} {t : State} (ht : execDone a s = .next t) :
    P t := by
  refine whileRunning_keeps h (fun h => hP.takePacket h a fun p g s' hg h => ?_) ht
  split at hg
  · cases hg
    exact hP.sortReply h _ _ fun o _ h => hP.toClosed.actReply h _ _ o
  · cases hg

theorem ClosedRun.execRefused (hP : ClosedRun P) (h : P s) {a : Arrival} {t : State}
    (ht : execRefused a s = .next t) : P t := by
  refine whileRunning_keeps h (fun h => hP.takePacket h a fun p g s' hg h => ?_) ht
  split at hg
  · cases hg
    exact hP.sortReply h _ _ fun o _ h => hP.toClosed.actFailed h o
  · cases hg

theorem ClosedRun.execError (hP : ClosedRun P) (h : P s) {a : Arrival} {t : State} (ht : execError a s = .next t) :
    P t := by
  refine whileRunning_keeps h (fun h => hP.takePacket h a fun p g s' hg h => ?_) ht
  split at hg
  · cases hg
    exact hP.sortReply h _ _ fun o _ h => hP.toClosed.actError h _ _ o
  · cases hg

theorem ClosedRun.execResponseTimerExpiry (hP : ClosedRun P) (h : P s) {n : Fin 32} {t : State}
    (ht : execResponseTimerExpiry n s = .next t) : P t := by
  refine whileRunning_keeps h (fun h => ?_) ht
  split
  · refine hP.wrapUp _ (hP.toClosed.actFailed ?_ _)
    refine hP.dlinkKept ?_ ?_ ?_
    · exact hP.tag _ _ _ h
    · rfl
    · rfl
  · exact h

/-! ## Recalls -/

theorem Closed.convert (hP : Closed P) (h : P s) (r : LineRecord) (d : Bool) : P (s.convert r d) := by
  unfold State.convert
  split
  · split
    · rename_i e he
      split
      · exact hP.update h he rfl rfl fun hl => ⟨hl.attempts _ e he, fun why => hl.waiting _ e why he⟩
      · exact h
    · exact h
  · exact h

theorem State.convert_slot (r : LineRecord) (d : Bool) (k : Fin 4) : (s.convert r d).slot k = s.slot k := by
  unfold State.convert
  repeat' split
  all_goals rfl

theorem Closed.answerSlot (hP : Closed P) (h : P s) {k : Fin 4} {sl : EvictionSlot} (hsl : s.slot k = some sl) :
    P (s.answerSlot k sl) := by
  unfold State.answerSlot
  split
  · refine hP.releaseSlot ?_ k
    split
    · rename_i e he
      exact hP.update h he rfl rfl fun hl => ⟨hl.attempts _ e he, fun why => hl.waiting _ e why he⟩
    · exact h
  · exact hP.releaseSlot h k
  · exact hP.slot _ _ _ h fun hm x hx => by
      cases hx
      exact (hm.2 k sl hsl).moved rfl rfl fun n hn => by cases hn
  · exact h

theorem State.flushHolding_some {w : WayRef} {k : Fin 4} {sl : EvictionSlot} (h : s.flushHolding w = some (k, sl)) :
    s.slot k = some sl := by
  unfold State.flushHolding at h
  split at h
  · split at h
    · rename_i hs
      split at h
      · cases h; exact hs
      · cases h
    · cases h
  · cases h

theorem State.slotCarrying_some {l : LineAddr} {k : Fin 4} {sl : EvictionSlot} (h : s.slotCarrying l = some (k, sl)) :
    s.slot k = some sl := by
  unfold State.slotCarrying at h
  obtain ⟨x, _, hx⟩ := List.exists_of_findSome?_eq_some h
  split at hx
  · rename_i hs
    split at hx
    · cases hx; exact hs
    · cases hx
  · cases hx

theorem LineRecord.marksAgree_recalled (r : LineRecord) (d : Bool) : (r.recalled d).MarksAgree := by
  cases d <;> simp [LineRecord.MarksAgree, LineRecord.recalled]

theorem Closed.recallWay (hP : Closed P) (h : P s) (w : WayRef) (d : Bool) : P (s.recallWay w d).1 := by
  have h1 : P ((s.setLine w ((s.line w).recalled d)).convert (s.line w) d) :=
    hP.convert (hP.line _ _ _ h fun _ => LineRecord.marksAgree_recalled _ _) _ _
  unfold State.recallWay
  dsimp only
  split
  · rename_i k sl hf
    refine hP.answerSlot h1 ?_
    rw [State.convert_slot]
    have hs : s.slot k = some sl := State.flushHolding_some hf
    exact hs
  · exact h1

theorem Closed.recallEffect (hP : Closed P) (h : P s) (l : LineAddr) (d : Bool) : P (s.recallEffect l d).1 := by
  unfold State.recallEffect
  split
  · exact hP.recallWay h _ _
  · split
    · rename_i hs
      exact hP.answerSlot h (State.slotCarrying_some hs)
    · exact h

theorem ClosedRun.takeRecall (hP : ClosedRun P) (h : P s) (x : BitVec 8) (l : LineAddr) (d : Bool) :
    P (s.takeRecall x l d) := by
  unfold State.takeRecall
  split
  · exact hP.wrapUp _ (hP.toClosed.endSlotNotSent (hP.form _ _ (hP.toClosed.recallEffect h l d)))
  · exact h

theorem ClosedRun.execRecallShare (hP : ClosedRun P) (h : P s) {a : Arrival} {t : State}
    (ht : execRecallShare a s = .next t) : P t := by
  refine whileRunning_keeps h (fun h => hP.takePacket h a fun p g s' hg h => ?_) ht
  split at hg
  · cases hg
    exact hP.takeRecall h _ _ _
  · cases hg

theorem ClosedRun.execRecallDrop (hP : ClosedRun P) (h : P s) {a : Arrival} {t : State}
    (ht : execRecallDrop a s = .next t) : P t := by
  refine whileRunning_keeps h (fun h => hP.takePacket h a fun p g s' hg h => ?_) ht
  split at hg
  · cases hg
    exact hP.takeRecall h _ _ _
  · cases hg

/-! ## Tracker rows -/

theorem Closed.serveWith (hP : Closed P) (h : P s) (hr : s.room = true) {n : Fin 12} {e : TrackerEntry} {r : Request}
    {rest : List Request} (he : s.entry n = some e) (hp : e.parked = r :: rest) (x : Status) (ws : List Word) :
    P (s.serveWith n e r rest x ws) := by
  unfold State.serveWith
  dsimp only
  have h1 : P { s.complete r.stream r.tag x ws with
      streams := (s.complete r.stream r.tag x ws).streams.map (StreamRecord.liftFull e.line) } := by
    refine hP.lifted _ _ (hP.complete h hr _ _ _ _) fun q => ?_
    unfold StreamRecord.liftFull
    split <;> rfl
  split
  · exact hP.freeEntryAt h1 n
  · rename_i hrest
    refine hP.entry _ _ _ h1 fun y hy => ?_
    cases hy
    refine ⟨fun hc => ?_, fun hl => ⟨hl.attempts n e he, fun why => hl.waiting n e why he⟩,
      fun hd m a hm hma => hd m n a e hm hma he⟩
    have := (hc.parked n e he).2
    rw [hp] at this
    cases rest with
    | nil => simp at hrest
    | cons a l => simp only [List.length_cons] at this ⊢; omega

theorem Closed.serveFront (hP : Closed P) (h : P s) (hr : s.room = true) {n : Fin 12} {e : TrackerEntry} {r : Request}
    {rest : List Request} (he : s.entry n = some e) (hp : e.parked = r :: rest) : P (s.serveFront n e r rest) := by
  unfold State.serveFront
  split
  · exact hP.serveWith h hr he hp _ _
  · exact hP.serveWith h hr he hp _ _
  · exact hP.serveWith h hr he hp _ _
  · split
    · exact hP.serveWith (hP.hit h r) (by rw [State.hit_room]; exact hr) (by rw [State.hit_entry]; exact he) hp _ _
    · exact hP.turnEntry h _ _ _

theorem ClosedRun.execServeParkedRequest (hP : ClosedRun P) (h : P s) {n : Fin 12} {t : State}
    (ht : execServeParkedRequest n s = .next t) : P t := by
  refine whileRunning_keeps h (fun h => ?_) ht
  split
  · rename_i e he
    split
    · rename_i r rest _ hp
      split
      · rename_i hr
        exact hP.wrapUp _ (hP.toClosed.serveFront h hr he hp)
      · exact h
    · exact h
  · exact h

theorem TrackerEntry.waiting_of_victimDue {e : TrackerEntry} (h : e.victimDue = true) :
    ∃ why, e.phase = .waiting why := by
  simp only [TrackerEntry.victimDue, Bool.and_eq_true, Bool.or_eq_true, beq_iff_eq] at h
  rcases h.2 with h | h
  · exact ⟨_, h⟩
  · exact ⟨_, h.1⟩

theorem ClosedRun.execVictimChoice (hP : ClosedRun P) (h : P s) {n : Fin 12} {t : State}
    (ht : execVictimChoice n s = .next t) : P t := by
  refine whileRunning_keeps h (fun h => ?_) ht
  split
  · rename_i e he
    split
    · rename_i hd
      refine hP.wrapUp _ (hP.toClosed.victimStep h n fun x hx => ?_)
      rw [he] at hx
      cases hx
      exact TrackerEntry.waiting_of_victimDue hd
    · exact h
  · exact h

theorem ClosedRun.execEvictionStep (hP : ClosedRun P) (h : P s) {n : Fin 12} {t : State}
    (ht : execEvictionStep n s = .next t) : P t := by
  refine whileRunning_keeps h (fun h => ?_) ht
  split
  · rename_i e he
    split
    · rename_i hd
      have hw : ∀ x, s.entry n = some x → ∃ why, x.phase = .waiting why := fun x hx => by
        rw [he] at hx
        cases hx
        simp only [TrackerEntry.evictionDue, Bool.and_eq_true, beq_iff_eq] at hd
        exact ⟨_, hd.1.2⟩
      refine hP.wrapUp _ ?_
      split
      · exact hP.toClosed.evictStep h n hw
      · exact hP.toClosed.step1 h n hw
    · exact h
  · exact h

theorem ClosedRun.execEntryIssue (hP : ClosedRun P) (h : P s) {n : Fin 12} {t : State}
    (ht : execEntryIssue n s = .next t) : P t := by
  refine whileRunning_keeps h (fun h => ?_) ht
  split
  · rename_i e he
    split
    · rename_i hd
      refine hP.wrapUp _ (hP.toClosed.step4 h n (State.attempts_of_waiting fun x hx => ?_))
      rw [he] at hx
      cases hx
      exact ⟨_, hd⟩
    · exact h
  · exact h

theorem ClosedRun.execSlotSend (hP : ClosedRun P) (h : P s) {k : Fin 4} {t : State}
    (ht : execSlotSend k s = .next t) : P t := by
  refine whileRunning_keeps h (fun h => ?_) ht
  split
  · split
    · exact hP.wrapUp _ (hP.toClosed.queueSlot h k)
    · exact h
  · exact h

/-! ## The U-link port -/

theorem ULink.receive_egress (u : ULink) (a : Arrival) : (u.receive a).egress = u.egress := by
  unfold ULink.receive
  repeat' split
  all_goals rfl

theorem State.ulinkFront_room {f : Frame} (h : s.ulinkFront = some f) : s.room = true := by
  unfold State.ulinkFront at h
  split at h
  · rename_i hc; exact hc.2
  · cases h

theorem Closed.arrive (hP : Closed P) (h : P s) (hr : s.room = true) (q : QueuedFrame) : P (s.arrive q) := by
  unfold State.arrive
  split
  · exact hP.place _ _ h hr
  · dsimp only
    split
    · rename_i hc
      refine hP.stream _ _ _ h ⟨fun hw => ?_, fun hl => ?_, fun hc => ⟨hc.depth _, hc.outstanding _⟩⟩
      · have h3 := s.queuedTotal_setStream q.stream
          { s.stream q.stream with queue := (s.stream q.stream).queue ++ [q] }
        have h1 : (s.stream q.stream).queue.length < 8 := hc.1
        have h2 : s.queuedTotal < 32 := hc.2
        simp only [List.length_append, List.length_singleton] at h3 ⊢
        omega
      · have := hl.legal q.stream
        exact ⟨⟨this.depthLow, this.depthHigh, this.distinct, this.few⟩, fun h0 =>
          ⟨by rw [h0]; exact hl.zeroOpen, by rw [h0]; exact hl.zeroManage⟩⟩
    · exact hP.place _ _ h hr

theorem ClosedRun.execRequestFrameArrival (hP : ClosedRun P) (h : P s) {a : Arrival} {t : State}
    (ht : execRequestFrameArrival a s = .next t) : P t := by
  refine whileRunning_keeps h (fun h => ?_) ht
  have h1 : P (s.setULink (s.ulink.receive a)) := hP.ulink _ _ h (by rw [ULink.receive_egress])
  dsimp only
  split
  · rename_i q hq
    obtain ⟨f, hf, _⟩ := Option.bind_eq_some_iff.1 hq
    have hr := State.ulinkFront_room hf
    refine hP.toClosed.arrive (s := State.popULink _) ?_ ?_ q
    · exact hP.ulink _ _ h1 (Nat.le_refl _)
    · exact hr
  · exact h1

theorem ClosedRun.execULinkBadFrame (hP : ClosedRun P) (h : P s) {a : Arrival} {t : State}
    (ht : execULinkBadFrame a s = .next t) : P t := by
  refine whileRunning_keeps h (fun h => ?_) ht
  have h1 : P (s.setULink (s.ulink.receive a)) := hP.ulink _ _ h (by rw [ULink.receive_egress])
  dsimp only
  split
  · split
    · refine hP.ulink _ _ ?_ (Nat.le_refl _)
      exact hP.ulink _ _ h1 (Nat.le_refl _)
    · exact h1
  · exact h1

theorem ClosedRun.execULinkLockGained (hP : ClosedRun P) (h : P s) {t : State}
    (ht : execULinkLockGained s = .next t) : P t := by
  refine whileRunning_keeps h (fun h => ?_) ht
  split
  · exact h
  · exact hP.ulink _ _ h (Nat.le_refl _)

theorem ClosedRun.execULinkLockLost (hP : ClosedRun P) (h : P s) {t : State}
    (ht : execULinkLockLost s = .next t) : P t := by
  refine whileRunning_keeps h (fun h => ?_) ht
  exact hP.ulink _ _ h (Nat.le_refl _)

theorem ClosedRun.execEgressFrameSent (hP : ClosedRun P) (h : P s) {t : State}
    (ht : execEgressFrameSent s = .next t) : P t := by
  refine whileRunning_keeps h (fun h => ?_) ht
  split
  · rename_i he
    refine hP.ulink _ _ h ?_
    rw [he]
    simp
  · exact h

/-! ## Actions of the engine -/

theorem ClosedRun.execDlinkRetrain (hP : ClosedRun P) (h : P s) {t : State} (ht : execDlinkRetrain s = .next t) :
    P t := by
  refine whileRunning_keeps h (fun h => hP.toClosed.admitMgmt h _ fun st q s' h hr _ => hP.wrapUp _ ?_) ht
  have h1 := hP.toClosed.answer h hr st q .ok [put 0 s'.dlink.retrained.code]
  unfold State.retrain
  split
  · exact hP.startTraining (hP.downEvent h1)
  · exact hP.startTraining h1
  · split
    · exact hP.startTraining h1
    · exact hP.dlinkKept h1 rfl rfl
  · exact h1

theorem ClosedRun.startLineAction (hP : ClosedRun P) (h : P s) (hr : s.room = true) (a : Action) {st : Fin 16}
    {q : QueuedFrame} (ha : s.Admits st q.tag) : P (s.startLineAction a st q) := by
  unfold State.startLineAction
  split
  · exact hP.toClosed.answer h hr _ _ _ _
  · split
    · exact hP.toClosed.answer h hr _ _ _ _
    · exact hP.wrapUp _ (hP.toClosed.lineStep (hP.toClosed.addOutstanding h ha)
        (fun _ => Progress.withinCapacities_start ..) (.inl rfl))

theorem ClosedRun.execLineClean (hP : ClosedRun P) (h : P s) {t : State} (ht : execLineClean s = .next t) : P t :=
  whileRunning_keeps h (fun h => hP.toClosed.admitMgmt h _ fun _ _ _ h hr ha => hP.startLineAction h hr _ ha) ht

theorem ClosedRun.execLinePurge (hP : ClosedRun P) (h : P s) {t : State} (ht : execLinePurge s = .next t) : P t :=
  whileRunning_keeps h (fun h => hP.toClosed.admitMgmt h _ fun _ _ _ h hr ha => hP.startLineAction h hr _ ha) ht

theorem ClosedRun.execLineDrop (hP : ClosedRun P) (h : P s) {t : State} (ht : execLineDrop s = .next t) : P t :=
  whileRunning_keeps h (fun h => hP.toClosed.admitMgmt h _ fun _ _ _ h hr ha => hP.startLineAction h hr _ ha) ht

theorem Closed.startWalk (hP : Closed P) (h : P s) (hr : s.room = true) (a : Action) {st : Fin 16} {q : QueuedFrame}
    (ha : s.Admits st q.tag) : P (s.startWalk a st q) := by
  unfold State.startWalk
  split
  · exact hP.answer h hr _ _ _ _
  · exact hP.engine _ _ (hP.addOutstanding h ha) fun _ q hq => by cases hq; exact Progress.withinCapacities_start ..

theorem Closed.execStoreClean (hP : Closed P) (h : P s) {t : State} (ht : execStoreClean s = .next t) : P t :=
  whileRunning_keeps h (fun h => hP.admitMgmt h _ fun _ _ _ h hr ha => hP.startWalk h hr _ ha) ht

theorem Closed.execStorePurge (hP : Closed P) (h : P s) {t : State} (ht : execStorePurge s = .next t) : P t :=
  whileRunning_keeps h (fun h => hP.admitMgmt h _ fun _ _ _ h hr ha => hP.startWalk h hr _ ha) ht

/-! ### The swap of a commit (R90, R91) -/

/-- Every record that an accepted validation has examined covers a granule, and no two share one (R90). -/
theorem validateFrom_none : ∀ (l : List WindowRecord) (i : Nat) (seen : List WindowRecord),
    validateFrom l i seen = none →
      (∀ r ∈ l.filter (·.inUse), r.start ≤ r.last) ∧
      (∀ r ∈ l.filter (·.inUse), ∀ x ∈ seen, r.overlaps x = false) ∧
      (l.filter (·.inUse)).Pairwise (fun a b => b.overlaps a = false)
  | [], _, _, _ => by simp
  | r :: rest, i, seen, h => by
    unfold validateFrom at h
    split at h
    · rename_i hu
      have := validateFrom_none rest (i + 1) seen h
      simpa [hu] using this
    · rename_i hu
      split at h
      · cases h
      · rename_i hsl
        split at h
        · cases h
        · rename_i hov
          obtain ⟨h1, h2, h3⟩ := validateFrom_none rest (i + 1) (r :: seen) h
          have hu' : r.inUse = true := by simpa using hu
          rw [List.filter_cons_of_pos (by simpa using hu')]
          refine ⟨?_, ?_, ?_⟩
          · intro x hx
            rcases List.mem_cons.1 hx with rfl | hx
            · exact BitVec.not_lt.1 hsl
            · exact h1 x hx
          · intro x hx y hy
            rcases List.mem_cons.1 hx with rfl | hx
            · simp only [Bool.not_eq_true, List.any_eq_false] at hov
              simpa using hov y hy
            · exact h2 x hx y (List.mem_cons_of_mem _ hy)
          · exact List.pairwise_cons.2 ⟨fun x hx => h2 x hx r (List.mem_cons_self), h3⟩

theorem mem_insertWindow (r x : WindowRecord) : ∀ l, x ∈ insertWindow r l ↔ x = r ∨ x ∈ l
  | [] => by simp [insertWindow]
  | y :: l => by
    unfold insertWindow
    split
    · simp
    · rw [List.mem_cons, mem_insertWindow r x l, List.mem_cons]
      tauto

theorem length_insertWindow (r : WindowRecord) : ∀ l, (insertWindow r l).length = l.length + 1
  | [] => rfl
  | y :: l => by
    unfold insertWindow
    split
    · rfl
    · simp [length_insertWindow r l]

/-- Inserting a record that overlaps none of a sorted list keeps it sorted. -/
theorem pairwise_insertWindow {r : WindowRecord} (hr : r.start ≤ r.last) : ∀ l : List WindowRecord,
    l.Pairwise (fun a b => a.last < b.start) → (∀ x ∈ l, x.start ≤ x.last) →
    (∀ x ∈ l, x.overlaps r = false) → (insertWindow r l).Pairwise (fun a b => a.last < b.start)
  | [], _, _, _ => by simp [insertWindow]
  | y :: l, hp, hc, ho => by
    have hy := hc y List.mem_cons_self
    have hoy := ho y List.mem_cons_self
    simp only [WindowRecord.overlaps, decide_eq_false_iff_not, not_and_or] at hoy
    rw [List.pairwise_cons] at hp
    unfold insertWindow
    split
    · rename_i hle
      have hlt : r.last < y.start := by
        rcases hoy with h | h
        · exact BitVec.not_le.1 h
        · exact absurd (BitVec.le_trans hle hy) h
      refine List.pairwise_cons.2 ⟨fun x hx => ?_, List.pairwise_cons.2 hp⟩
      rcases List.mem_cons.1 hx with rfl | hx
      · exact hlt
      · have := hp.1 x hx
        simp only [BitVec.lt_def, BitVec.le_def] at hlt hy this ⊢
        omega
    · rename_i hle
      have hlt : y.last < r.start := by
        rcases hoy with h | h
        · exact absurd (BitVec.le_trans (BitVec.le_of_lt (BitVec.not_le.1 hle)) hr) h
        · exact BitVec.not_le.1 h
      refine List.pairwise_cons.2 ⟨fun x hx => ?_, pairwise_insertWindow hr l hp.2
        (fun x hx => hc x (List.mem_cons_of_mem _ hx)) fun x hx => ho x (List.mem_cons_of_mem _ hx)⟩
      rcases (mem_insertWindow r x l).1 hx with rfl | hx
      · exact hlt
      · exact hp.1 x hx

/-- The in-use records of a valid table, inserted one after another, stand sorted (R82, R91). -/
theorem sorted_foldr : ∀ l : List WindowRecord, (∀ r ∈ l, r.start ≤ r.last) →
    l.Pairwise (fun a b => b.overlaps a = false) →
    (l.foldr insertWindow []).Pairwise (fun a b => a.last < b.start) ∧
      (∀ x, x ∈ l.foldr insertWindow [] ↔ x ∈ l) ∧ (l.foldr insertWindow []).length = l.length
  | [], _, _ => by simp
  | r :: l, hc, hp => by
    rw [List.pairwise_cons] at hp
    obtain ⟨h1, h2, h3⟩ := sorted_foldr l (fun x hx => hc x (List.mem_cons_of_mem _ hx)) hp.2
    refine ⟨pairwise_insertWindow (hc r List.mem_cons_self) _ h1 (fun x hx => ?_) fun x hx => ?_, fun x => ?_, ?_⟩
    · exact hc x (List.mem_cons_of_mem _ ((h2 x).1 hx))
    · exact hp.1 x ((h2 x).1 hx)
    · show x ∈ insertWindow r (l.foldr insertWindow []) ↔ _
      rw [mem_insertWindow, h2, List.mem_cons]
    · show (insertWindow r (l.foldr insertWindow [])).length = _
      rw [length_insertWindow, h3, List.length_cons]

theorem WindowTable.swapped_sorted {t : WindowTable} (h : t.validate = none) :
    t.swapped.Sorted ∧ t.swapped.active.length ≤ 24 := by
  obtain ⟨h1, _, h3⟩ := validateFrom_none _ _ _ h
  obtain ⟨a, b, c⟩ := sorted_foldr _ h1 h3
  refine ⟨⟨a, fun r hr => ?_⟩, ?_⟩
  · have hr' := (b r).1 hr
    exact ⟨by simpa using (List.mem_filter.1 hr').2, h1 r hr'⟩
  · show (List.foldr insertWindow [] _).length ≤ 24
    rw [c]
    exact (List.length_filter_le _ _).trans (by simp)

theorem ClosedRun.execCommitWindows (hP : ClosedRun P) (h : P s) {t : State} (ht : execCommitWindows s = .next t) :
    P t := by
  refine whileRunning_keeps h (fun h => hP.toClosed.admitMgmt h _ fun st q s' h hr ha => ?_) ht
  split
  · exact hP.toClosed.answer h hr _ _ _ _
  · split
    · exact hP.toClosed.answer h hr _ _ _ _
    · rename_i hv
      refine hP.advance (hP.engine _ _ (hP.windows _ _ (hP.toClosed.addOutstanding h ha) (fun _ => ?_) fun _ => ?_)
        fun _ q hq => ?_)
      · exact (WindowTable.swapped_sorted hv).1
      · exact (WindowTable.swapped_sorted hv).2
      · cases hq
        exact Progress.withinCapacities_start ..

theorem State.abort_admits {st : Fin 16} {tag : Fin 64} (ha : s.Admits st tag) : s.abort.Admits st tag := by
  unfold State.abort
  split
  · rename_i p _
    unfold State.Admits State.complete
    dsimp only
    show tag ∉ ((s.setStream p.stream _).stream st).outstanding ∧ _
    have : ∀ x, ((s.setStream p.stream { s.stream p.stream with
        outstanding := (s.stream p.stream).outstanding.erase p.tag }).stream x).outstanding.Sublist
          (s.stream x).outstanding ∧ ((s.setStream p.stream { s.stream p.stream with
        outstanding := (s.stream p.stream).outstanding.erase p.tag }).stream x).depth = (s.stream x).depth := by
      intro x
      rw [State.stream_setStream]
      split
      · rename_i hx
        subst hx
        exact ⟨List.erase_sublist, rfl⟩
      · exact ⟨List.Sublist.refl _, rfl⟩
    obtain ⟨h1, h2⟩ := this st
    refine ⟨fun hm => ha.1 (h1.mem hm), ?_⟩
    show List.length _ < BitVec.toNat _
    have h3 := h1.length_le
    have h4 := ha.2
    rw [← h2] at h4
    exact Nat.lt_of_le_of_lt h3 h4
  · exact ha

theorem ClosedRun.execBridgeReset (hP : ClosedRun P) (h : P s) {t : State} (ht : execBridgeReset s = .next t) :
    P t := by
  refine whileRunning_keeps h (fun h => hP.toClosed.admitMgmt h _ fun st q s' h hr ha => ?_) ht
  refine hP.advance (hP.engine _ _ (hP.toClosed.addOutstanding ?_ (State.abort_admits ha)) fun _ q hq => by
    cases hq; exact Progress.withinCapacities_start ..)
  unfold State.abort
  split
  · exact hP.toClosed.complete h hr _ _ _ _
  · exact h

theorem ClosedRun.execLineActionStep (hP : ClosedRun P) (h : P s) {t : State} (ht : execLineActionStep s = .next t) :
    P t := by
  refine whileRunning_keeps h (fun h => ?_) ht
  split
  · rename_i p hp
    split
    · rename_i hx
      exact hP.wrapUp _ (hP.toClosed.lineStep h (fun he => he p hp) hx.1)
    · exact h
  · exact h

theorem ClosedRun.execWalkVisit (hP : ClosedRun P) (h : P s) {t : State} (ht : execWalkVisit s = .next t) : P t := by
  refine whileRunning_keeps h (fun h => ?_) ht
  split
  · rename_i p hp
    split
    · rename_i hx
      exact hP.wrapUp _ (hP.toClosed.firstPassVisit h (fun he => he p hp) hx.1)
    · exact h
  · exact h

theorem ClosedRun.execWalkRevisit (hP : ClosedRun P) (h : P s) {t : State} (ht : execWalkRevisit s = .next t) : P t := by
  refine whileRunning_keeps h (fun h => ?_) ht
  split
  · rename_i p hp
    split
    · rename_i hx
      exact hP.wrapUp _ (hP.toClosed.revisit h (fun he => he p hp) hx.1)
    · exact h
  · exact h

theorem Closed.execPlaceActionCompletion (hP : Closed P) (h : P s) {t : State}
    (ht : execPlaceActionCompletion s = .next t) : P t := by
  refine whileRunning_keeps h (fun h => ?_) ht
  split
  · rename_i p hp
    split
    · exact hP.finish h fun he => he p hp
    · exact h
  · exact h

theorem Closed.execPlaceNotice (hP : Closed P) (h : P s) {t : State} (ht : execPlaceNotice s = .next t) : P t := by
  refine whileRunning_keeps h (fun h => ?_) ht
  split
  · exact hP.placeNotice h _
  · exact h

/-! ## Every command, and every step -/

/-- A property that the writes keep is kept by every command but the two about the RESET_N pin. -/
theorem ClosedRun.exec_running (hP : ClosedRun P) (h : P s) {c : Instr} (hl : c ≠ .resetNLow) (hh : c ≠ .resetNHigh)
    {t : State} (ht : exec c s = .next t) : P t := by
  cases c with
  | requestFrameArrival a => exact hP.execRequestFrameArrival h ht
  | uLinkBadFrame a => exact hP.execULinkBadFrame h ht
  | uLinkLockGained => exact hP.execULinkLockGained h ht
  | uLinkLockLost => exact hP.execULinkLockLost h ht
  | egressFrameSent => exact hP.execEgressFrameSent h ht
  | read => exact hP.toClosed.execRead h ht
  | write => exact hP.toClosed.execWrite h ht
  | resettingRefusal => exact hP.execResettingRefusal h ht
  | streamRecordWrite => exact hP.toClosed.execStreamRecordWrite h ht
  | stagingWindowWrite => exact hP.execStagingWindowWrite h ht
  | lineStoreControlWrite => exact hP.execLineStoreControlWrite h ht
  | noticeSourceWrite => exact hP.toClosed.execNoticeSourceWrite h ht
  | mgmtWrite => exact hP.execMgmtWrite h ht
  | bridgeReset => exact hP.execBridgeReset h ht
  | commitWindows => exact hP.execCommitWindows h ht
  | stagingReload => exact hP.execStagingReload h ht
  | noticeClear => exact hP.execNoticeClear h ht
  | faultTake => exact hP.toClosed.execFaultTake h ht
  | lineClean => exact hP.execLineClean h ht
  | linePurge => exact hP.execLinePurge h ht
  | lineDrop => exact hP.execLineDrop h ht
  | storeClean => exact hP.toClosed.execStoreClean h ht
  | storePurge => exact hP.toClosed.execStorePurge h ht
  | dlinkRetrain => exact hP.execDlinkRetrain h ht
  | lineActionStep => exact hP.execLineActionStep h ht
  | walkVisit => exact hP.execWalkVisit h ht
  | walkRevisit => exact hP.execWalkRevisit h ht
  | placeActionCompletion => exact hP.toClosed.execPlaceActionCompletion h ht
  | serveParkedRequest entry => exact hP.execServeParkedRequest h ht
  | victimChoice entry => exact hP.execVictimChoice h ht
  | evictionStep entry => exact hP.execEvictionStep h ht
  | entryIssue entry => exact hP.execEntryIssue h ht
  | slotSend slot => exact hP.execSlotSend h ht
  | dataS a => exact hP.execDataS h ht
  | dataO a => exact hP.execDataO h ht
  | grant a => exact hP.execGrant h ht
  | wordData a => exact hP.execWordData h ht
  | done a => exact hP.execDone h ht
  | refused a => exact hP.execRefused h ht
  | error a => exact hP.execError h ht
  | recallShare a => exact hP.execRecallShare h ht
  | recallDrop a => exact hP.execRecallDrop h ht
  | responseTimerExpiry tag => exact hP.execResponseTimerExpiry h ht
  | staleWindowEnd tag => exact hP.toClosed.execStaleWindowEnd h ht
  | signalPresent => exact hP.execSignalPresent h ht
  | signalLost => exact hP.execSignalLost h ht
  | trainingTimerExpiry => exact hP.execTrainingTimerExpiry h ht
  | helloAck a => exact hP.execHelloAck h ht
  | dLinkBadFrame a => exact hP.execDLinkBadFrame h ht
  | placeNotice => exact hP.toClosed.execPlaceNotice h ht
  | resetNLow =>
    exact absurd rfl hl
  | resetNHigh =>
    exact absurd rfl hh
  | dLinkPacketSent => exact hP.execDLinkPacketSent h ht
  | mgmtRead => exact hP.toClosed.execMgmtRead h ht
  | malformedRefusal => exact hP.toClosed.execMalformedRefusal h ht

/-- A property that the writes keep, that the power-on values have, and that speaks neither of the RESET_N pin nor of the
queue of commands is kept by every step. -/
theorem ClosedRun.step (hP : ClosedRun P) (hr : P State.reset) (hq : ∀ s b l, P s → P { s with resetN := b, pending := l })
    (h : P s) {t : State} (ht : step s = .next t) : P t := by
  unfold Machine.step at ht
  split at ht
  · rename_i c rest _
    have h' : P { s with pending := rest } := hq s s.resetN rest h
    by_cases hl : c = .resetNLow
    · subst hl
      cases ht
      exact hq _ _ _ hr
    · by_cases hh : c = .resetNHigh
      · subst hh
        cases ht
        exact hq _ true rest h'
      · exact hP.exec_running h' hl hh ht
  · cases ht
    exact h

end Sys2Proof.Machine
end

