-- ==== Sys2Proof/Laws/Ops.lean ====
section
/-! SUPPORT. What the shared operations answer, said once each: the gate of the RESET_N pin, the searches for the lowest number,
the receivers, the lookup of a line, the admission of a head request, issue at step 4, the entries a sent slot held back, and the
numbers inside words. -/

namespace Sys2Proof.Machine

open Sys2Proof (Word LineAddr ByteAddr Granule LineData Frame Arrival Instr)

/-! ## The gate and the conditions as propositions -/

/-- With RESET_N high a row's effect is taken. -/
theorem whileRunning_high {s : State} {f : State → State} (h : s.resetN = true) : whileRunning s f = .next (f s) := by
  simp [whileRunning, h]

/-- With RESET_N low nothing changes (R194). -/
theorem whileRunning_low {s : State} {f : State → State} (h : s.resetN = false) : whileRunning s f = .next s := by
  simp [whileRunning, h]

theorem State.room_iff (s : State) : s.room = true ↔ s.ulink.egress.length < 64 := by simp [State.room]

theorem State.linkUp_iff (s : State) : s.linkUp = true ↔ s.dlink.state = .up := by simp [State.linkUp]

/-! ## Searches for the lowest number -/

/-- A search over the numbers below `n` answers the lowest that satisfies the condition. -/
theorem find_finRange_iff {n : Nat} (p : Fin n → Bool) (k : Fin n) :
    (List.finRange n).find? p = some k ↔ p k = true ∧ ∀ j < k, p j = false := by
  constructor
  · intro h
    refine ⟨List.find?_some h, fun j hj => ?_⟩
    obtain ⟨_, l1, l2, hl, hall⟩ := List.find?_eq_some_iff_append.1 h
    have hp := List.pairwise_lt_finRange n
    have hj' := List.mem_finRange j
    rw [hl] at hp hj'
    rcases List.mem_append.1 hj' with h | h
    · simpa using hall j h
    · rcases List.mem_cons.1 h with rfl | h
      · exact absurd hj (lt_irrefl _)
      · have := (List.pairwise_cons.1 (List.pairwise_append.1 hp).2.1).1 j h
        exact absurd (lt_trans hj this) (lt_irrefl _)
  · rintro ⟨h, hj⟩
    obtain ⟨l1, l2, hl⟩ := List.append_of_mem (List.mem_finRange k)
    have hp := List.pairwise_lt_finRange n
    rw [hl] at hp
    refine List.find?_eq_some_iff_append.2 ⟨h, l1, l2, hl, fun j hm => ?_⟩
    simp [hj j ((List.pairwise_append.1 hp).2.2 j hm k List.mem_cons_self)]

/-- The search answers nothing exactly when no number satisfies the condition. -/
theorem find_finRange_none {n : Nat} (p : Fin n → Bool) : (List.finRange n).find? p = none ↔ ∀ k, p k = false := by
  rw [List.find?_eq_none]; simp

/-- No slot in use satisfies `p`. -/
theorem State.anySlot_false {s : State} {p : EvictionSlot → Bool} (h : ∀ k sl, s.slot k = some sl → p sl = false) :
    s.anySlot p = false := by
  unfold State.anySlot
  rw [List.any_eq_false]
  intro k _
  cases hk : s.slot k with
  | none => simp
  | some sl => simp [h k sl hk]

/-! ## The receivers -/

@[simp] theorem ULink.receive_lock (u : ULink) (a : Arrival) : (u.receive a).lock = u.lock := by
  unfold ULink.receive; repeat' split
  all_goals rfl
@[simp] theorem ULink.receive_badFrames (u : ULink) (a : Arrival) : (u.receive a).badFrames = u.badFrames := by
  unfold ULink.receive; repeat' split
  all_goals rfl
@[simp] theorem DLink.receive_badFrames (u : DLink) (a : Arrival) : (u.receive a).badFrames = u.badFrames := by
  unfold DLink.receive; repeat' split
  all_goals rfl
@[simp] theorem DLink.receive_state (u : DLink) (a : Arrival) : (u.receive a).state = u.state := by
  unfold DLink.receive; repeat' split
  all_goals rfl
@[simp] theorem DLink.receive_tags (u : DLink) (a : Arrival) : (u.receive a).tags = u.tags := by
  unfold DLink.receive; repeat' split
  all_goals rfl

/-- A packet at the receiver's front is taken by the row that is about it, and left by every other (R23, R122). -/
theorem State.Receives.takePacket {s : State} {a : Arrival} {p : HomePacket} {rest : List Frame} (h : s.Receives a p rest)
    (f : HomePacket → Option (State → State)) :
    s.takePacket a f =
      match f p with
      | some g => g (s.packetTaken a rest)
      | none => s.setDLink (s.dlink.receive a) := by
  obtain ⟨fr, hx, hp⟩ := h.front
  unfold State.takePacket
  have hf : (s.setDLink (s.dlink.receive a)).dlinkFront = some fr := by
    unfold State.dlinkFront
    have hr : (s.setDLink (s.dlink.receive a)).room = true := h.room
    simp [hr, h.notDown, hx]
  dsimp only
  rw [hf]
  simp only [Option.bind_some, hp]
  cases f p with
  | none => rfl
  | some g =>
    dsimp only
    congr 1
    unfold State.popDLink State.packetTaken
    simp [hx, State.setDLink]

/-! ## The lookup of a line (R1, R5) -/

theorem State.holdsTag_of_lookup {s : State} {l : LineAddr} {w : WayRef} (h : s.lookup l = some w) :
    (s.line w).holdsTag l = true ∧ w.set = setOf l := by
  unfold State.lookup at h
  obtain ⟨v, hv, rfl⟩ := Option.map_eq_some_iff.1 h
  have := List.find?_some hv
  exact ⟨this, rfl⟩

/-- Tag and set name the line address they came from (R1). -/
theorem lineAt_tagOf (l : LineAddr) : lineAt (tagOf l) (setOf l) = l := by
  apply BitVec.eq_of_toNat_eq
  have := l.isLt
  have h : (setOf l).val = l.toNat % 128 := rfl
  unfold lineAt tagOf
  rw [h, BitVec.toNat_ofNat, BitVec.toNat_ofNat]
  omega

theorem State.lineAt_of_lookup {s : State} {l : LineAddr} {w : WayRef} (h : s.lookup l = some w) :
    lineAt (s.line w).tag w.set = l := by
  obtain ⟨h1, h2⟩ := State.holdsTag_of_lookup h
  simp [LineRecord.holdsTag] at h1
  rw [h1.2, h2, lineAt_tagOf]

theorem State.entryNaming_isSome (s : State) (l : LineAddr) :
    (s.entryNaming l).isSome = true ↔ ∃ n e, s.entry n = some e ∧ e.line = l := by
  unfold State.entryNaming
  rw [List.find?_isSome]
  constructor
  · rintro ⟨n, _, h⟩
    cases he : s.entry n with
    | none => simp [he] at h
    | some e => rw [he] at h; exact ⟨n, e, he, by simpa using h⟩
  · rintro ⟨n, e, he, hl⟩
    exact ⟨n, List.mem_finRange n, by simp [he, hl]⟩

/-! ## Admission (R110 to R113) -/

/-- A head request that passes the checks meets none of them. -/
theorem State.Passes.commonCheck {s : State} {row : HeadRow} {st : Fin 16} {q : QueuedFrame} (h : s.Passes row st q) :
    s.commonCheck st q = none := by
  unfold State.commonCheck
  simp only [h.isOpen, h.formOk, h.newTag, if_false, reduceCtorEq]
  by_cases hm : q.isMgmt = true
  · simp [hm, h.right hm]
  · simp [hm]

/-- What a management row does with a head request that passes the checks. -/
theorem State.Passes.admitMgmt {s : State} {row : HeadRow} {st : Fin 16} {q : QueuedFrame}
    {f : Fin 16 → QueuedFrame → State → State} (h : s.Passes row st q) : s.admitMgmt row f = f st q (s.take st) := by
  simp [State.admitMgmt, State.admitting, h.selected, h.row, h.commonCheck]

theorem State.take_begun (s : State) (st : Fin 16) (q : QueuedFrame) : (s.take st).addOutstanding st q.tag = s.begun st q := by
  simp [State.take, State.addOutstanding, State.begun, State.setStream, State.setArbiter, State.stream]

/-! ## Issue at step 4 (R58, R59) -/

/-- With the D-link UP and a tag FREE, an entry with a packet to send issues. -/
theorem State.step4_issues {s : State} {n : Fin 12} {t : Fin 32} {e : TrackerEntry} {p : BridgePacket}
    (he : s.entry n = some e) (hu : s.dlink.state = .up) (ht : s.freeTag = some t) (hp : e.packet t = some p) :
    s.step4 n = { s with
      entries := s.entries.set n (some { e with phase := .issued t, attempts := e.attempts + 1, lastTag := some t })
      dlink := { s.dlink with tags := s.dlink.tags.set t (.inUse (.entry n) s.dlink.timeout), tx := s.dlink.tx ++ [p] } } := by
  have hl : s.linkUp = true := by simp [State.linkUp, hu]
  simp only [State.step4, he, hl, ht, if_true, State.issue, hp]
  rfl

/-! ## Numbers inside words (chapter 10) -/

theorem bits_lt (w : Word) (lo n : Nat) : bits w lo n < 2 ^ n := Nat.mod_lt _ (by positivity)

theorem flag_eq (w : Word) (lo : Nat) : flag w lo = decide (bits w lo 1 = 1) := by
  simp [flag]
  rfl

/-- A value put at its place stands there as a number, if it fits the word. -/
theorem toNat_put (lo v : Nat) (h : v * 2 ^ lo < 2 ^ 64) : (put lo v).toNat = v * 2 ^ lo := by
  unfold put; rw [BitVec.toNat_ofNat, Nat.mod_eq_of_lt h]

theorem toNat_add_put (x : Word) (lo v : Nat) (h : x.toNat + v * 2 ^ lo < 2 ^ 64) :
    (x + put lo v).toNat = x.toNat + v * 2 ^ lo := by
  have h' : v * 2 ^ lo < 2 ^ 64 := by omega
  rw [BitVec.toNat_add, toNat_put _ _ h', Nat.mod_eq_of_lt h]

/-- A field of a sum is a field of the numbers' sum. -/
theorem bits_add_put (x : Word) (lo v a m : Nat) (h : a + m ≤ 64) :
    bits (x + put lo v) a m = (x.toNat + v * 2 ^ lo) / 2 ^ a % 2 ^ m := by
  have key (y n : Nat) (h : a + m ≤ n) : y % 2 ^ n / 2 ^ a % 2 ^ m = y / 2 ^ a % 2 ^ m := by
    obtain ⟨c, rfl⟩ : ∃ c, n = a + c := ⟨n - a, by omega⟩
    rw [pow_add, Nat.mod_mul_right_div_self, Nat.mod_mod_of_dvd _ (pow_dvd_pow 2 (by omega))]
  unfold bits put
  rw [BitVec.toNat_add, BitVec.toNat_ofNat, Nat.add_mod_mod, key _ 64 h]

/-- Adding `put lo v` leaves the fields below `lo` alone. -/
theorem bits_add_put_low (x : Word) (lo v a m : Nat) (h : a + m ≤ lo) (hl : lo ≤ 64) :
    bits (x + put lo v) a m = bits x a m := by
  obtain ⟨c, rfl⟩ : ∃ c, lo = a + m + c := ⟨lo - (a + m), by omega⟩
  rw [bits_add_put _ _ _ _ _ (by omega), show v * 2 ^ (a + m + c) = 2 ^ m * (v * 2 ^ c) * 2 ^ a by
    rw [pow_add, pow_add]; ring, Nat.add_mul_div_right _ _ (by positivity), Nat.add_mul_mod_self_left]
  rfl

/-- A field at or above `lo` of `x + put lo v`, with `x` wholly below `lo`, is that field of `v`. -/
theorem bits_add_put_high (x : Word) (lo v a m : Nat) (hx : x.toNat < 2 ^ lo) (h : lo ≤ a) (hl : a + m ≤ 64) :
    bits (x + put lo v) a m = v / 2 ^ (a - lo) % 2 ^ m := by
  obtain ⟨c, rfl⟩ : ∃ c, a = lo + c := ⟨a - lo, by omega⟩
  rw [bits_add_put _ _ _ _ _ hl, pow_add, ← Nat.div_div_eq_div_mul, Nat.add_mul_div_right _ _ (by positivity),
    Nat.div_eq_of_lt hx, Nat.zero_add, Nat.add_sub_cancel_left]

/-- A field put just above `x` keeps the word below the next field's place. -/
theorem toNat_add_put_lt (x : Word) (lo v n hi : Nat) (hx : x.toNat < 2 ^ lo) (hv : v < 2 ^ n) (h : lo + n ≤ hi)
    (h64 : hi ≤ 64) : (x + put lo v).toNat < 2 ^ hi := by
  have h1 : x.toNat + v * 2 ^ lo < 2 ^ (lo + n) := by
    rw [pow_add]; nlinarith [Nat.pos_of_ne_zero (show (2 : Nat) ^ lo ≠ 0 by positivity)]
  have h2 : (2 : Nat) ^ (lo + n) ≤ 2 ^ hi := Nat.pow_le_pow_right (by decide) h
  have h3 : (2 : Nat) ^ hi ≤ 2 ^ 64 := Nat.pow_le_pow_right (by decide) h64
  rw [toNat_add_put _ _ _ (by omega)]; omega

/-! ## The entries a sent slot held back (R164) -/

/-- `reachStep4` changes its own entry at most, and nothing outside the entries. -/
theorem State.reachStep4_frame (s : State) (n : Fin 12) :
    s.reachStep4 n = { s with entries := (s.reachStep4 n).entries } ∧
    ∀ m, m ≠ n → (s.reachStep4 n).entry m = s.entry m := by
  unfold State.reachStep4
  cases s.entry n with
  | none => exact ⟨rfl, fun _ _ => rfl⟩
  | some e =>
    dsimp only
    split
    · exact ⟨rfl, fun m hm => Vector.getElem_set_ne n.isLt m.isLt fun h => hm (Fin.ext h.symm)⟩
    · exact ⟨rfl, fun _ _ => rfl⟩

/-- What `reachStep4` does with an entry that waits SLOT-NOT-SENT no longer, and with any other. -/
theorem State.reachStep4_entry {s : State} {n : Fin 12} {e : TrackerEntry} (he : s.entry n = some e) :
    (s.reachStep4 n).entry n = some (if s.sentOrFreed n then e.wait .noTag else e) := by
  unfold State.reachStep4
  rw [he]
  dsimp only
  split
  · simp [State.entry, State.setEntry]
  · exact he

end Sys2Proof.Machine
end

