-- ==== Sys2Proof/WellFormed.lean ====
section
/-! DEFINITION. Which commands are well formed: a command about a link's reception carries, when it carries a completed
frame, one of the kind its row is about. A command with any other arrival (a frame's start, or nothing new) is well formed,
because the frame its row acts on may already wait in the receiver. The machine does not rely on this: a frame of another
kind waits in the receiver for the command of its own row (log entry 6). -/

namespace Sys2Proof

open Sys2Proof.Machine (HomePacket homePacket requestFrame)

/-- The frame that an arrival completes, if any. -/
def Arrival.frame? : Arrival → Option Frame
  | .whole f => some f
  | .finish f => some f
  | .start => none
  | .waiting => none

/-- The arrival completes no frame, or one that satisfies `ok`. -/
def Arrival.brings (a : Arrival) (ok : Frame → Bool) : Bool :=
  match a.frame? with
  | some f => ok f
  | none => true

/-- The frame holds a packet of the home that satisfies `ok`. -/
def holdsPacket (ok : HomePacket → Bool) (f : Frame) : Bool :=
  match homePacket f with
  | some p => ok p
  | none => false

/-- The packet is a DATA-S. -/
def isDataS : HomePacket → Bool
  | .dataS .. => true
  | _ => false
/-- The packet is a DATA-O. -/
def isDataO : HomePacket → Bool
  | .dataO .. => true
  | _ => false
/-- The packet is a GRANT. -/
def isGrant : HomePacket → Bool
  | .grant .. => true
  | _ => false
/-- The packet is a WORD-DATA. -/
def isWordData : HomePacket → Bool
  | .wordData .. => true
  | _ => false
/-- The packet is a DONE. -/
def isDone : HomePacket → Bool
  | .done .. => true
  | _ => false
/-- The packet is a REFUSED. -/
def isRefused : HomePacket → Bool
  | .refused .. => true
  | _ => false
/-- The packet is an ERROR. -/
def isError : HomePacket → Bool
  | .error .. => true
  | _ => false
/-- The packet is a RECALL-SHARE. -/
def isRecallShare : HomePacket → Bool
  | .recallShare .. => true
  | _ => false
/-- The packet is a RECALL-DROP. -/
def isRecallDrop : HomePacket → Bool
  | .recallDrop .. => true
  | _ => false
/-- The packet is a HELLO-ACK. -/
def isHelloAck : HomePacket → Bool
  | .helloAck .. => true
  | _ => false

/-- The command is well formed. -/
def Instr.wellFormed (i : Instr) : Bool :=
  match i with
  | .requestFrameArrival a => a.brings fun f => (requestFrame f).isSome
  | .uLinkBadFrame a => a.brings fun f => (requestFrame f).isNone
  | .dataS a => a.brings (holdsPacket isDataS)
  | .dataO a => a.brings (holdsPacket isDataO)
  | .grant a => a.brings (holdsPacket isGrant)
  | .wordData a => a.brings (holdsPacket isWordData)
  | .done a => a.brings (holdsPacket isDone)
  | .refused a => a.brings (holdsPacket isRefused)
  | .error a => a.brings (holdsPacket isError)
  | .recallShare a => a.brings (holdsPacket isRecallShare)
  | .recallDrop a => a.brings (holdsPacket isRecallDrop)
  | .helloAck a => a.brings (holdsPacket isHelloAck)
  | .dLinkBadFrame a => a.brings fun f => (homePacket f).isNone
  | .uLinkLockGained => true
  | .uLinkLockLost => true
  | .egressFrameSent => true
  | .read => true
  | .write => true
  | .resettingRefusal => true
  | .streamRecordWrite => true
  | .stagingWindowWrite => true
  | .lineStoreControlWrite => true
  | .noticeSourceWrite => true
  | .mgmtWrite => true
  | .bridgeReset => true
  | .commitWindows => true
  | .stagingReload => true
  | .noticeClear => true
  | .faultTake => true
  | .lineClean => true
  | .linePurge => true
  | .lineDrop => true
  | .storeClean => true
  | .storePurge => true
  | .dlinkRetrain => true
  | .lineActionStep => true
  | .walkVisit => true
  | .walkRevisit => true
  | .placeActionCompletion => true
  | .serveParkedRequest _ => true
  | .victimChoice _ => true
  | .evictionStep _ => true
  | .entryIssue _ => true
  | .slotSend _ => true
  | .responseTimerExpiry _ => true
  | .staleWindowEnd _ => true
  | .signalPresent => true
  | .signalLost => true
  | .trainingTimerExpiry => true
  | .placeNotice => true
  | .resetNLow => true
  | .resetNHigh => true
  | .dLinkPacketSent => true
  | .mgmtRead => true
  | .malformedRefusal => true

end Sys2Proof
end

