-- ==== Sys2Proof/Laws/PerInstr.lean ====
section
/-! SUPPORT. What holds of every command as syntax: it is well formed unless its arrival completes a frame of a kind that its
row is not about. One lemma per constructor. -/

namespace Sys2Proof

/-- What comes in on the lanes with a command, for the rows about reception. -/
def Instr.arrival? : Instr → Option Arrival
  | .requestFrameArrival a => some a
  | .uLinkBadFrame a => some a
  | .dataS a => some a
  | .dataO a => some a
  | .grant a => some a
  | .wordData a => some a
  | .done a => some a
  | .refused a => some a
  | .error a => some a
  | .recallShare a => some a
  | .recallDrop a => some a
  | .helloAck a => some a
  | .dLinkBadFrame a => some a
  | _ => none

/-- A command whose arrival completes no frame is well formed. -/
def Laws.CommandShape.Statement (i : Instr) : Prop :=
  (∀ a, i.arrival? = some a → a.frame? = none) → i.wellFormed = true

namespace Laws.CommandShape

/-- An arrival that completes no frame passes every check of its frame. -/
theorem brings_of_none {a : Arrival} (h : a.frame? = none) (ok : Frame → Bool) : a.brings ok = true := by
  simp [Arrival.brings, h]

theorem requestFrameArrival (a : Arrival) : Statement (.requestFrameArrival a) := fun h => brings_of_none (h a rfl) _
theorem uLinkBadFrame (a : Arrival) : Statement (.uLinkBadFrame a) := fun h => brings_of_none (h a rfl) _
theorem uLinkLockGained : Statement (.uLinkLockGained) := fun _ => rfl
theorem uLinkLockLost : Statement (.uLinkLockLost) := fun _ => rfl
theorem egressFrameSent : Statement (.egressFrameSent) := fun _ => rfl
theorem read : Statement (.read) := fun _ => rfl
theorem write : Statement (.write) := fun _ => rfl
theorem resettingRefusal : Statement (.resettingRefusal) := fun _ => rfl
theorem streamRecordWrite : Statement (.streamRecordWrite) := fun _ => rfl
theorem stagingWindowWrite : Statement (.stagingWindowWrite) := fun _ => rfl
theorem lineStoreControlWrite : Statement (.lineStoreControlWrite) := fun _ => rfl
theorem noticeSourceWrite : Statement (.noticeSourceWrite) := fun _ => rfl
theorem mgmtWrite : Statement (.mgmtWrite) := fun _ => rfl
theorem bridgeReset : Statement (.bridgeReset) := fun _ => rfl
theorem commitWindows : Statement (.commitWindows) := fun _ => rfl
theorem stagingReload : Statement (.stagingReload) := fun _ => rfl
theorem noticeClear : Statement (.noticeClear) := fun _ => rfl
theorem faultTake : Statement (.faultTake) := fun _ => rfl
theorem lineClean : Statement (.lineClean) := fun _ => rfl
theorem linePurge : Statement (.linePurge) := fun _ => rfl
theorem lineDrop : Statement (.lineDrop) := fun _ => rfl
theorem storeClean : Statement (.storeClean) := fun _ => rfl
theorem storePurge : Statement (.storePurge) := fun _ => rfl
theorem dlinkRetrain : Statement (.dlinkRetrain) := fun _ => rfl
theorem lineActionStep : Statement (.lineActionStep) := fun _ => rfl
theorem walkVisit : Statement (.walkVisit) := fun _ => rfl
theorem walkRevisit : Statement (.walkRevisit) := fun _ => rfl
theorem placeActionCompletion : Statement (.placeActionCompletion) := fun _ => rfl
theorem serveParkedRequest (entry : Fin 12) : Statement (.serveParkedRequest entry) := fun _ => rfl
theorem victimChoice (entry : Fin 12) : Statement (.victimChoice entry) := fun _ => rfl
theorem evictionStep (entry : Fin 12) : Statement (.evictionStep entry) := fun _ => rfl
theorem entryIssue (entry : Fin 12) : Statement (.entryIssue entry) := fun _ => rfl
theorem slotSend (slot : Fin 4) : Statement (.slotSend slot) := fun _ => rfl
theorem dataS (a : Arrival) : Statement (.dataS a) := fun h => brings_of_none (h a rfl) _
theorem dataO (a : Arrival) : Statement (.dataO a) := fun h => brings_of_none (h a rfl) _
theorem grant (a : Arrival) : Statement (.grant a) := fun h => brings_of_none (h a rfl) _
theorem wordData (a : Arrival) : Statement (.wordData a) := fun h => brings_of_none (h a rfl) _
theorem done (a : Arrival) : Statement (.done a) := fun h => brings_of_none (h a rfl) _
theorem refused (a : Arrival) : Statement (.refused a) := fun h => brings_of_none (h a rfl) _
theorem error (a : Arrival) : Statement (.error a) := fun h => brings_of_none (h a rfl) _
theorem recallShare (a : Arrival) : Statement (.recallShare a) := fun h => brings_of_none (h a rfl) _
theorem recallDrop (a : Arrival) : Statement (.recallDrop a) := fun h => brings_of_none (h a rfl) _
theorem responseTimerExpiry (tag : Fin 32) : Statement (.responseTimerExpiry tag) := fun _ => rfl
theorem staleWindowEnd (tag : Fin 32) : Statement (.staleWindowEnd tag) := fun _ => rfl
theorem signalPresent : Statement (.signalPresent) := fun _ => rfl
theorem signalLost : Statement (.signalLost) := fun _ => rfl
theorem trainingTimerExpiry : Statement (.trainingTimerExpiry) := fun _ => rfl
theorem helloAck (a : Arrival) : Statement (.helloAck a) := fun h => brings_of_none (h a rfl) _
theorem dLinkBadFrame (a : Arrival) : Statement (.dLinkBadFrame a) := fun h => brings_of_none (h a rfl) _
theorem placeNotice : Statement (.placeNotice) := fun _ => rfl
theorem resetNLow : Statement (.resetNLow) := fun _ => rfl
theorem resetNHigh : Statement (.resetNHigh) := fun _ => rfl
theorem dLinkPacketSent : Statement (.dLinkPacketSent) := fun _ => rfl
theorem mgmtRead : Statement (.mgmtRead) := fun _ => rfl
theorem malformedRefusal : Statement (.malformedRefusal) := fun _ => rfl

end Laws.CommandShape

end Sys2Proof
end

