-- ==== Sys2Proof/Tests/Slice0.lean ====
section
/-! SUPPORT. Tests. First what each well-formedness check refuses; then words of the manual's own examples (section 10.4) and words
written out from the tables of chapter 10; then single steps from small states, with results read from the rules; then, for each
statement with hypotheses, named witnesses that meet them, at the ends of their ranges. -/

namespace Sys2Proof.Tests

open Sys2Proof Sys2Proof.Machine

/-! ## Small states -/

/-- A far window over granules 0 to 15 with ceiling WRITE-BACK. -/
def far : WindowRecord := ⟨true, 0, 15, .far, .writeBack, false⟩

/-- Both links up, one far window, stream 0 under WRITE-BACK; all else as after reset. -/
def ready : State := { State.reset with
  ulink := { ULink.reset with lock := true }
  dlink := { DLink.reset with state := .up, signal := true }
  windows := { WindowTable.reset with active := [far] }
  streams := State.reset.streams.set 0 { StreamRecord.reset 0 with policy := .writeBack } }

/-- A request frame with good CRC. -/
def frame (w : Word) (ws : List Word) : Frame := ⟨true, w :: ws⟩
/-- A frame that failed its CRC. -/
def badFrame : Frame := ⟨false, [0x11]⟩
/-- The queued form of a request frame. -/
def queued (w : Word) (ws : List Word) : QueuedFrame := QueuedFrame.ofWords w ws

/-- Stream 0's queue holds one request. -/
def ask (s : State) (w : Word) (ws : List Word) : State := s.setStream 0 { s.stream 0 with queue := [queued w ws] }
/-- Stream 0 takes another policy. -/
def under (s : State) (p : Policy) : State := s.setStream 0 { s.stream 0 with policy := p }
/-- The first active window becomes another. -/
def windowed (s : State) (r : WindowRecord) : State := s.setWindows { s.windows with active := [r] }

/-- Words 0 to 7 of a line. -/
def words8 : LineData := Vector.ofFn fun i => BitVec.ofNat 64 (0x1000 + i.val)
/-- Line 1 stands in set 1 way 0. -/
def holding (s : State) (state : LineState) (marks : BitVec 8) (h : Holder) : State :=
  s.setLine ⟨1, 0⟩ ⟨0, state, marks, words8, h⟩
/-- The way line 1 stands in. -/
def way1 : WayRef := ⟨1, 0⟩
/-- The D-link in another state. -/
def link (s : State) (x : LinkState) : State := s.setDLink { s.dlink with state := x }
/-- The egress queue holds `n` frames. -/
def egress (s : State) (n : Nat) : State :=
  s.setULink { s.ulink with egress := List.replicate n (.notice 0 0 0) }

/-- READ of 8 bytes at 40h, stream 0, tag 5. -/
def readWord : Word := 0x40030501
/-- READ of the line at 40h. -/
def readLineWord : Word := 0x40040501
/-- WRITE of 8 bytes at 40h. -/
def writeWord : Word := 0x40030502
/-- WRITE of one byte at 7Fh, the last of line 1. -/
def writeByteWord : Word := 0x7F000502
/-- The request of a READ or WRITE word under a policy. -/
def access (w : Word) (ws : List Word) (p : Policy) : Request := (queued w ws).toRequest 0 p

/-- A tracker entry for line 1 with one parked request. -/
def entry (k : EntryKind) (ph : EntryPhase) (way : Option WayRef) (r : Request) : TrackerEntry where
  line := 1
  kind := k
  phase := ph
  way := way
  victim := none
  attempts := 1
  converted := false
  epoch := 0
  parked := [r]
  lastTag := some 3
  storedShared := false
  answer := .none
  wake := false
/-- A parked READ under WRITE-BACK. -/
def readReq : Request := access readWord [] .writeBack
/-- A parked WRITE under WRITE-BACK. -/
def writeReq : Request := access writeWord [7] .writeBack

/-- A slot that carries line 1 away from set 1 way 0. -/
def slotOf (k : SlotKind) (st : SlotState) (mask : BitVec 8) : EvictionSlot where
  state := st
  kind := k
  line := 1
  mask := mask
  data := words8
  origin := way1
  originState := if k = .release then .owned else .modified
  attempts := 1
  stallReported := false

/-- Tracker entry 0 waits for a reply under tag 3. -/
def issued (k : EntryKind) (way : Option WayRef) (r : Request) : State :=
  (ready.setEntry 0 (some (entry k (.issued 3) way r))).setTag 3 (.inUse (.entry 0) 16)
/-- Slot 0 waits for a reply under tag 3. -/
def sentSlot (sl : EvictionSlot) : State := (ready.setSlot 0 (some sl)).setTag 3 (.inUse (.slot 0) 16)

/-- The engine holds an action of stream 0, tag 9. -/
def running (s : State) (a : Action) (ph : EnginePhase) : State := s.setEngine (some (Progress.start a 0 9 1 ph))
/-- The progress record of `running`. -/
def prog (a : Action) (ph : EnginePhase) : Progress := Progress.start a 0 9 1 ph

/-- A next state that satisfies `f`. -/
def gives (c : Instr) (s : State) (f : State → Bool) : Bool :=
  match exec c s with
  | .next t => f t
  | _ => false

/-- The words of a data packet: header, line 1, eight words. -/
def dataWords (header : Word) : Frame := ⟨true, header :: 1 :: words8.toList⟩

/-! ## Well-formedness: what each check refuses -/

theorem test_wf_request_refuses_bad : (Instr.requestFrameArrival (.whole badFrame)).wellFormed = false := by decide
theorem test_wf_badRequest_refuses_good : (Instr.uLinkBadFrame (.finish (frame readWord []))).wellFormed = false := by decide
theorem test_wf_dataS_refuses_dataO : (Instr.dataS (.whole (dataWords 0x313))).wellFormed = false := by decide
theorem test_wf_dataO_refuses_dataS : (Instr.dataO (.whole (dataWords 0x312))).wellFormed = false := by decide
theorem test_wf_grant_refuses_done : (Instr.grant (.whole (frame 0x315 []))).wellFormed = false := by decide
theorem test_wf_wordData_refuses_done : (Instr.wordData (.whole (frame 0x315 []))).wellFormed = false := by decide
theorem test_wf_done_refuses_refused : (Instr.done (.whole (frame 0x317 []))).wellFormed = false := by decide
theorem test_wf_refused_refuses_error : (Instr.refused (.whole (frame 0x318 []))).wellFormed = false := by decide
theorem test_wf_error_refuses_refused : (Instr.error (.whole (frame 0x317 []))).wellFormed = false := by decide
theorem test_wf_share_refuses_drop : (Instr.recallShare (.whole (frame 0x1A [1]))).wellFormed = false := by decide
theorem test_wf_drop_refuses_share : (Instr.recallDrop (.whole (frame 0x19 [1]))).wellFormed = false := by decide
theorem test_wf_hello_refuses_short : (Instr.helloAck (.whole (frame 0x11 []))).wellFormed = false := by decide
theorem test_wf_badPacket_refuses_good : (Instr.dLinkBadFrame (.whole (frame 0x317 []))).wellFormed = false := by decide
theorem test_wf_accepts_its_row : (Instr.dataS (.whole (dataWords 0x312))).wellFormed = true ∧
    (Instr.dLinkBadFrame (.whole badFrame)).wellFormed = true ∧ (Instr.done .waiting).wellFormed = true := by decide

/-! ## Words -/

/-- Section 10.4: the probe of set 69 way 2. -/
theorem test_probe_word : (LineRecord.mk 0x46 .owned 0 words8 .none).word = 0x0000000020000046 := by decide
/-- Section 10.4: the same line held by FLUSH slot 1. -/
theorem test_probe_word_held : (LineRecord.mk 0x46 .owned 0 words8 (.slot 1)).word = 0x0000120020000046 := by decide
/-- Section 10.4: the FAULTS 1 word of an exhausted fetch. -/
theorem test_fault_word : (FaultEntry.mk .fetchFailed (some 0) (some 5) (some 0x2345) (some 3) none (some 2)).firstWord
    = 0x0002000305002F04 := by decide
/-- Section 10.1: a READ's fields. -/
theorem test_read_fields : (queued 0x0000012345430A71 []).stream = 7 ∧ (queued 0x0000012345430A71 []).tag = 10 ∧
    (queued 0x0000012345430A71 []).kind = 1 ∧ (queued 0x0000012345430A71 []).sizeCode = 3 ∧
    (queued 0x0000012345430A71 []).addr = 0x12345 := by decide
/-- Section 10.1: a MGMT-ACT's fields. -/
theorem test_act_fields : (queued 0x0003000005000505 [0, 0]).row = .lineDrop ∧
    (queued 0x0003000005000505 [0, 0]).formOk = true ∧ (queued 0x0006000005000505 [0, 0]).formOk = false := by decide
/-- Section 10.3: packets of the home. -/
theorem test_home_packets : homePacket (dataWords 0x312) = some (.dataS 3 1 words8) ∧
    homePacket (frame 0x01000711 [0x12340040]) = some (.helloAck 64 0x1234) ∧
    homePacket (frame 0x00800318 []) = some (.error 3 .outOfRange) ∧
    homePacket (frame 0x0000AB1A [2]) = some (.recallDrop 0xAB 2) ∧ homePacket (frame 0x1B []) = none := by decide
/-- Section 10.3: HELLO offers 64-byte lines and part code 0612h. -/
theorem test_hello_words : BridgePacket.hello.encode = [1, 0x06120040] := by decide
/-- No row of the table gives bits. -/
theorem test_no_table_bits : decodeTableWord 8 1 = none ∧ State.reset.withFetchWord 8 1 = State.reset := ⟨rfl, rfl⟩

/-! ## Single steps -/

/-- A frame queues (R103); the start of one only frames. -/
theorem test_request_queues : gives (.requestFrameArrival (.whole (frame readWord []))) ready
    (fun t => (t.stream 0).queue.length == 1 && t.ulink.rx.isEmpty) = true := by decide
/-- A ninth request of one stream is answered RETRY (R104). -/
theorem test_request_retry : gives (.requestFrameArrival (.whole (frame readWord [])))
    (ready.setStream 0 { ready.stream 0 with queue := List.replicate 8 (queued readWord []) })
    (fun t => t.ulink.egress == [.completion 0 5 .retry []]) = true := by decide
/-- The U-link bad-frame counter stays at 65535 (R105). -/
theorem test_bad_saturates : gives (.uLinkBadFrame (.whole badFrame))
    (ready.setULink { ready.ulink with badFrames := 65535 }) (fun t => t.ulink.badFrames == 65535) = true := by decide
/-- A frame cut by the loss of lock is discarded (R195). -/
theorem test_lock_lost : gives .uLinkLockLost (ready.setULink { ready.ulink with framing := true })
    (fun t => !t.ulink.lock && !t.ulink.framing) = true := by decide
/-- A NOTICE frame is one word with kind 9 (section 10.2). -/
theorem test_notice_sent : gives .egressFrameSent (ready.setULink { ready.ulink with egress := [.notice 2 5 255] })
    (fun t => t.ulink.lanes == [0xFF050029] && t.ulink.egress.isEmpty) = true := by decide
/-- A read miss takes way 0 of its set, tag 0, and sends GET-S (R14, R9, R58). -/
theorem test_read_miss : gives .read (ask ready readWord [])
    (fun t => t.dlink.tx == [.getS 0 1] && t.tag 0 == .inUse (.entry 0) 16 && (t.line way1).holder == .entry 0) = true := by
  decide
/-- A read miss of a line that an ANSWERED FLUSH still carries, its way INVALID after a RECALL-DROP, is sent and takes the other
way: R53 names no FLUSH for a fetch (log entry 36), and victim choice passes over the way the slot holds (R8). -/
theorem test_refetch_beside_answered_flush : gives .read
    (ask (((holding ready .invalid 0 (.slot 0)).setTag 3 (.inUse (.slot 0) 16)).setSlot 0
      (some ⟨.answered 3, .flush, 1, 1, words8, way1, .owned, 1, false⟩)) readWord [])
    (fun t => t.dlink.tx == [.getS 0 1] && (t.line way1).holder == .slot 0 && (t.line ⟨1, 1⟩).holder == .entry 0) = true := by
  decide
/-- A byte written at 7Fh lands in the top lane of word 7 (R19). -/
theorem test_write_hit : gives .write (ask (holding ready .owned 0 .none) writeByteWord [0xAA00000000000000])
    (fun t => (t.line way1).data[7] == 0xAA00000000001007 && (t.line way1).marks == 0x80 &&
      (t.line way1).state == .modified) = true := by decide
/-- A WRITE-THROUGH write of a SHARED line stores and sends DIRECT-WRITE (R16). -/
theorem test_write_through : gives .write
    (ask (windowed (holding ready .shared 0 .none) { far with ceiling := .writeThrough }) writeWord [7])
    (fun t => (t.line way1).data[0] == 7 && (t.line way1).marks == 0 && t.dlink.tx == [.directWrite 0 0x40 .b8 [7]]) = true := by
  decide
/-- Stream 0 may not be closed (R101). -/
theorem test_stream_zero_stays : gives .streamRecordWrite (ask ready 0x0000000001000504 [0x0400, 0])
    (fun t => t.ulink.egress == [.completion 0 5 .invalidValue []] && (t.stream 0).isOpen) = true := by decide
/-- A NOTICE-CLEAR with bit 6 set is refused (R187). -/
theorem test_notice_clear_mask : gives .noticeClear (ask ready 0x0001000003000505 [0, 0x40])
    (fun t => t.ulink.egress == [.completion 0 5 .invalidValue []]) = true := by decide
/-- FAULT-TAKE on an empty record (R182). -/
theorem test_fault_take_empty : gives .faultTake (ask ready 0x0001000004000505 [0, 0])
    (fun t => t.ulink.egress == [.completion 0 5 .ok [0]]) = true := by decide
/-- An empty staging table commits to an empty active copy, and the sweep starts (R91, R92). -/
theorem test_commit_empty : gives .commitWindows (ask ready 0x0001000002000505 [0, 0])
    (fun t => t.windows.active.isEmpty && t.windows.epoch == 1 &&
      t.engine == some (Progress.start .commit 0 5 0 .firstPass)) = true := by decide
/-- A LINE-DROP of a MODIFIED line sends RELEASE and logs the loss (R133). -/
theorem test_line_drop : gives .lineDrop (ask (holding ready .modified 1 .none) 0x0003000005000505 [0, 1])
    (fun t => t.dlink.tx == [.release 0 1] && (t.faults.entries.map (·.kind)) == [.dataDiscarded] &&
      (t.line way1).state == .invalid) = true := by decide
/-- A LINE-CLEAN of an absent line is NOT-PRESENT at once (R130). -/
theorem test_line_clean_absent : gives .lineClean (ask ready 0x0001000005000505 [0, 1])
    (fun t => t.engine == none && (t.ulink.egress.map fun
      | .completion _ _ x _ => x == .ok
      | _ => false) == [true]) = true := by decide
/-- A fitting DATA-S installs SHARED and frees the tag (R12, R29). -/
theorem test_dataS : gives (.dataS (.whole (dataWords 0x312))) (issued .fetchS (some way1) readReq)
    (fun t => (t.line way1).state == .shared && t.tag 3 == .free && ((t.entry 0).map (·.phase)) == some .ending) = true := by
  decide
/-- A GRANT to a converted UPGRADE is a mismatch, and GET-O follows (R36). -/
theorem test_grant_converted : gives (.grant (.whole (frame 0x314 [1])))
    (ready.setEntry 0 (some { entry .upgrade (.issued 3) (some way1) writeReq with converted := true })
      |>.setTag 3 (.inUse (.entry 0) 16))
    (fun t => t.dlink.tx == [.getO 0 1] && (t.faults.entries.map (·.kind)) == [.replyMismatch]) = true := by decide
/-- A recall of a MODIFIED line carries its marked words and leaves it SHARED (R39). -/
theorem test_recall_share : gives (.recallShare (.whole (frame 0x0919 [1]))) (holding ready .modified 5 .none)
    (fun t => t.dlink.tx == [.recallReply 9 1 (.data 5 words8)] && (t.line way1).state == .shared &&
      (t.line way1).marks == 0) = true := by decide
/-- A recall of nothing is NOT-HELD (R43). -/
theorem test_recall_not_held : gives (.recallDrop (.whole (frame 0x091A [1]))) ready
    (fun t => t.dlink.tx == [.recallReply 9 1 .notHeld]) = true := by decide
/-- An expiry retires the tag for four periods and the entry tries again (R157, R158, R60). -/
theorem test_expiry : gives (.responseTimerExpiry 3) (issued .fetchS (some way1) readReq)
    (fun t => t.tag 3 == .retired 64 && t.tag 0 == .inUse (.entry 0) 16 && t.dlink.timeouts == 1) = true := by decide
/-- The signal's coming starts training with a HELLO (R150, R151). -/
theorem test_signal_present : gives .signalPresent State.reset
    (fun t => t.dlink.state == .training && t.dlink.tx == [.hello] && t.dlink.trainingTimer == some 10) = true := by decide
/-- A HELLO-ACK of another line size faults the link (R165). -/
theorem test_hello_wrong_size : gives (.helloAck (.whole (frame 0x11 [0x12340020]))) (link ready .training)
    (fun t => t.dlink.state == .faulted && (t.notice 5).status) = true := by decide
/-- Loss of the signal fails an issued entry and leaves its way INVALID: a QUEUED PUTBACK stays QUEUED (R67, R76). -/
theorem test_signal_lost : gives .signalLost
    ((issued .fetchS (some way1) readReq).setSlot 1 (some { slotOf .putback .queued 1 with line := 2 }))
    (fun t => t.dlink.state == .down && ((t.entry 0).map (·.phase)) == some .ending &&
      ((t.slot 1).map (·.state)) == some .queued && t.tag 3 == .free) = true := by decide
/-- The link comes up: a QUEUED slot takes tag 0, and the entry it held back is left at step 4 (R164; log entry 15). -/
theorem test_hello_ack_up : gives (.helloAck (.whole (frame 0x11 [0x12340040])))
    (((link ready .training).setSlot 0 (some (slotOf .release .queued 0))).setEntry 0
      (some (entry .purgeDirect (.waiting .slotNotSent) none readReq)))
    (fun t => t.dlink.state == .up && t.dlink.homeId == 0x1234 && t.dlink.tx == [.release 0 1] &&
      ((t.entry 0).map (·.phase)) == some (.waiting .noTag) && t.tag 1 == .free) = true := by decide
/-- That entry issues in a step of its own, under the next tag (R164, R58). -/
theorem test_entry_issues_after : gives (.entryIssue 0)
    (((ready.setSlot 0 (some (slotOf .release (.sending 0) 0))).setTag 0 (.inUse (.slot 0) 16)).setEntry 0
      (some (entry .purgeDirect (.waiting .noTag) none (access readWord [] .bypass))))
    (fun t => t.dlink.tx == [.directRead 1 0x40 .b8]) = true := by decide
/-- A turned entry that fails before it tries again logs its last attempt's tag (R65, R179). -/
theorem test_turned_failure_tag : gives .signalLost
    (ready.setEntry 0 (some { entry .fetchO (.waiting .noWay) none writeReq with attempts := 0, lastTag := some 31 }))
    (fun t => t.faults.entries.map (·.dTag) == [some 31] && ((t.entry 0).map (·.converted)) == some false) = true := by decide
/-- RESET_N low clears everything (R194). -/
theorem test_reset_low : gives .resetNLow (holding ready .modified 5 .none)
    (fun t => !t.resetN && t.line way1 == LineRecord.reset && t.dlink == DLink.reset && t.ulink == ULink.reset) = true := by
  decide

/-! ## Witnesses: states and operands that meet the hypotheses of the statements -/

/-- The conditions of `Passes`, to be decided together. -/
theorem passes {s : State} {row : HeadRow} {q : QueuedFrame}
    (h : s.resetN = true ∧ s.selected = some (0, q) ∧ q.row = row ∧ (s.stream 0).isOpen = true ∧ q.formOk = true ∧
      q.tag ∉ (s.stream 0).outstanding ∧ (q.isMgmt = true → (s.stream 0).manage = true)) : s.Passes row 0 q :=
  ⟨⟨h.1, h.2.1, h.2.2.1⟩, h.2.2.2.1, h.2.2.2.2.1, h.2.2.2.2.2.1, h.2.2.2.2.2.2⟩

/-- The conditions of `Reaches`, to be decided together. -/
theorem reaches {s : State} {q : QueuedFrame} {p : Policy} (win : WindowRecord)
    (h : (q.row = .read ∨ q.row = .write) ∧ s.resetN = true ∧ s.selected = some (0, q) ∧ (s.stream 0).isOpen = true ∧
      q.formOk = true ∧ q.tag ∉ (s.stream 0).outstanding ∧ q.isMgmt = false ∧
      s.windows.covering (granuleOfAddr q.addr) = some win ∧ win.kind = .far ∧ (win.isProtected = true → q.row = .read) ∧
      effectivePolicy (s.stream 0).policy win.ceiling s.lineStoreOn = p) : s.Reaches 0 q (q.toRequest 0 p) := by
  obtain ⟨h1, h2, h3, h4, h5, h6, h7, h8, h9, h10, rfl⟩ := h
  exact ⟨h1, ⟨⟨h2, h3, rfl⟩, h4, h5, h6, fun h => absurd h (by simp [h7])⟩, win, h8, h9, h10, rfl⟩

/-- Where no slot is in use, whatever is asked of every slot holds. -/
theorem noSlots {s : State} {P : Fin 4 → EvictionSlot → Prop} (h : ∀ k, s.slot k = none) (k : Fin 4) (sl : EvictionSlot)
    (hk : s.slot k = some sl) : P k sl := by rw [h k] at hk; cases hk

/-- Where no tracker entry is in use, whatever is asked of every entry holds. -/
theorem noEntries {s : State} {P : Fin 12 → TrackerEntry → Prop} (h : ∀ n, s.entry n = none) (n : Fin 12) (e : TrackerEntry)
    (hn : s.entry n = some e) : P n e := by rw [h n] at hn; cases hn

/-- The conditions of `Receives`, to be decided together. -/
theorem receives {s : State} {a : Arrival} {p : HomePacket} (f : Frame)
    (h : s.resetN = true ∧ s.dlink.state ≠ .down ∧ s.room = true ∧ (s.dlink.receive a).rx = [f] ∧ homePacket f = some p) :
    s.Receives a p [] := ⟨h.1, h.2.1, h.2.2.1, f, h.2.2.2.1, h.2.2.2.2⟩

/-- The conditions of `Replies` under tag 3. -/
theorem replies {s : State} {a : Arrival} {p : HomePacket} {o : Owner} (f : Frame)
    (h : s.resetN = true ∧ s.room = true ∧ (s.dlink.receive a).rx = [f] ∧ homePacket f = some p ∧ p.tag? = some 3 ∧
      s.dlink.state = .up ∧ s.tag 3 = .inUse o 16) : s.Replies a p [] 3 o :=
  ⟨⟨h.1, by rw [h.2.2.2.2.2.1]; decide, h.2.1, f, h.2.2.1, h.2.2.2.1⟩, h.2.2.2.2.1, h.2.2.2.2.2.1, 16, h.2.2.2.2.2.2⟩

theorem witness_StepRunsFrontCommand : State.reset.pending = [] := rfl
theorem witness_ResetPinRows : ({ ready with resetN := false } : State).resetN = false ∧ Instr.read ≠ .resetNLow ∧
    Instr.read ≠ .resetNHigh := by decide
theorem witness_LockGatesReception : ready.resetN = true ∧ ready.ulink.lock = true ∧ State.reset.ulink.lock = false ∧
    { ULink.reset with lock := true, framing := true }.framing = true ∧ ULink.reset.framing = false ∧
    DLink.reset.signal = false ∧ ready.dlink.signal = true ∧ { DLink.reset with signal := true, framing := true }.framing = true ∧
    DLink.reset.framing = false := by decide
/-- The receiver hands over one request; seven of its stream are queued, or eight; or 32 stand in four other queues; or a
bridge reset runs. -/
theorem witness_RequestFrameArrives :
    let a : Arrival := .whole (frame readWord [])
    let many (s : State) (st : Fin 16) (n : Nat) : State :=
      s.setStream st { s.stream st with queue := List.replicate n (queued readWord []) }
    let s7 := many ready 0 7
    let full := many (many (many (many ready 1 8) 2 8) 3 8) 4 8
    ready.resetN = true ∧ ready.ulink.lock = true ∧ ready.room = true ∧
    (ready.ulink.receive a).rx = [frame readWord []] ∧ requestFrame (frame readWord []) = some (queued readWord []) ∧
    (running ready .bridgeReset .refusing).resetting = true ∧
    s7.resetting = false ∧ (s7.stream 0).queue.length < 8 ∧ s7.queuedTotal < 32 ∧
    (many full 4 7).queuedTotal = 31 ∧ 8 ≤ ((many ready 0 8).stream 0).queue.length ∧
    (full.stream 0).queue.length < 8 ∧ 32 ≤ full.queuedTotal := by decide
theorem witness_BadFramesAreCounted : ready.resetN = true ∧ ready.room = true ∧ ready.ulink.lock = true ∧
    (ready.ulink.receive (.whole badFrame)).rx = [badFrame] ∧ requestFrame badFrame = none ∧ ready.dlink.state ≠ .down ∧
    (ready.dlink.receive (.whole badFrame)).rx = [badFrame] ∧ homePacket badFrame = none := by decide
theorem witness_FullEgressQueuePausesProducers : (egress ready 64).resetN = true ∧
    64 ≤ (egress ready 64).ulink.egress.length := by decide
theorem witness_OldestIsSentFirst : (egress ready 1).resetN = true ∧ (egress ready 1).ulink.lock = true ∧
    (egress ready 1).ulink.egress = [.notice 0 0 0] ∧
    (ready.form .hello).dlink.state = .up ∧ (ready.form .hello).dlink.tx = [.hello] ∧
    (link (ready.form .hello) .training).dlink.state = .training := by decide
theorem witness_EgressFrameLayout : words8.toList.length ≤ 8 ∧ ([] : List Word).length ≤ 8 := by decide
/-- A header word of each kind the home sends, for tag 31 and the last line, with each size code and a short frame. -/
theorem witness_BridgePacketLayout :
    (∀ k ∈ [0x11, 0x12, 0x13, 0x14, 0x15, 0x16, 0x17, 0x18, 0x19, 0x1A], ∀ z ∈ [0, 3, 4, 5, 7],
      let h : Word := put 0 k + put 8 31 + put 16 z
      bits h 0 5 = k ∧ bits h 8 5 = (31 : Fin 32).val ∧ bits h 16 3 = z) ∧
    (∀ k ∈ [0x10, 0x1B, 0x1F], bits (put 0 k + put 8 31) 0 5 = k ∧ (k < 0x11 ∨ 0x1A < k)) ∧
    bits (put 0 (2 ^ 34 - 1)) 0 34 = (BitVec.allOnes 34).toNat ∧ (List.replicate 8 (0 : Word)).length < 9 ∧
    ([] : List Word).length < 1 := by decide
/-- Each finding of the four checks, on a READ that is selected. -/
theorem witness_AdmissionRefusesByFirstCheck :
    let q := queued readWord []
    let bad := queued 0x41030501 []
    let mgmt := queued 0x503 [0, 0]
    let shut := ask (ready.setStream 0 { ready.stream 0 with isOpen := false }) readWord []
    let misfit := ask ready 0x41030501 []
    let twice := ask (ready.setStream 0 { ready.stream 0 with outstanding := [5] }) readWord []
    let weak := ask (ready.setStream 0 { ready.stream 0 with manage := false }) 0x503 [0, 0]
    let noKind := ask ready 0x500 []
    (shut.resetN = true ∧ shut.selected = some (0, q) ∧ q.row = .read ∧ (shut.stream 0).isOpen = false) ∧
    (misfit.selected = some (0, bad) ∧ bad.row = .read ∧ (misfit.stream 0).isOpen = true ∧ bad.formOk = false) ∧
    (twice.selected = some (0, q) ∧ (twice.stream 0).isOpen = true ∧ q.formOk = true ∧
      q.tag ∈ (twice.stream 0).outstanding) ∧
    (weak.selected = some (0, mgmt) ∧ mgmt.row = .mgmtRead ∧ (weak.stream 0).isOpen = true ∧ mgmt.formOk = true ∧
      mgmt.tag ∉ (weak.stream 0).outstanding ∧ mgmt.isMgmt = true ∧ (weak.stream 0).manage = false) ∧
    noKind.selected = some (0, queued 0x500 []) ∧ (queued 0x500 []).row = .malformedRefusal := by decide
/-- A head of each kind: sizes 0 and 4, an index that exists, one that is written and one that is not, each kind of action, and kinds
that name no request. -/
theorem witness_AdmissionRefusesByFirstCheck_rows :
    Size.b1.code = bits writeByteWord 16 3 ∧ Size.b64.code = bits readLineWord 16 3 ∧ bits readLineWord 0 4 = 1 ∧
    bits writeByteWord 0 4 = 2 ∧ (queued readLineWord []).row = .read ∧ (queued writeByteWord [7]).row = .write ∧
    (queued 0x0000020002000503 [0, 0]).row = .mgmtRead ∧ (queued 0x0000020102000503 [0, 0]).row = .malformedRefusal ∧
    (queued 0x0000000200000504 [0, 0]).row = .lineStoreControlWrite ∧
    (queued 0x0000000004000504 [0, 0]).row = .malformedRefusal ∧ (queued 0x0004000005000505 [0, 0]).row = .storeClean ∧
    (queued 0x0005000005000505 [0, 0]).row = .storePurge ∧ (queued 0x0002000000000505 [0, 0]).row = .malformedRefusal ∧
    (queued 0x500 []).row = .malformedRefusal ∧ (queued 0x506 []).row = .malformedRefusal := by decide
/-- A READ outside every window, one in a DENY window, and a WRITE into a protected one. -/
theorem witness_WindowCheckRefuses :
    let bare := ask { ready with windows := WindowTable.reset } readWord []
    let denied := ask (windowed ready { far with kind := .deny }) readWord []
    let kept := ask (windowed ready { far with isProtected := true }) writeWord [7]
    let r := queued readWord []
    let w := queued writeWord [7]
    bare.Passes r.row 0 r ∧ bare.windows.covering (granuleOfAddr r.addr) = none ∧
    denied.Passes r.row 0 r ∧ denied.windows.covering (granuleOfAddr r.addr) = some { far with kind := .deny } ∧
    kept.Passes w.row 0 w ∧ kept.windows.covering (granuleOfAddr w.addr) = some { far with isProtected := true } ∧
    w.row = .write :=
  ⟨passes (by decide), by decide, passes (by decide), by decide, passes (by decide), by decide, by decide⟩
theorem witness_WindowLookupAndEffectivePolicy : ready.windows.Sorted ∧ ready.windows.covering 15 = some far ∧
    ready.windows.covering 16 = none := ⟨⟨by decide, by decide⟩, by decide, by decide⟩
theorem witness_FaultEntriesAreLogged :
    let f : FaultEntry := ⟨.unknownTag, none, none, none, some 0, none, none⟩
    let holds (n : Nat) : State := ready.setFaults ⟨List.replicate n f, 255⟩
    (holds 7).faults.entries.length < 8 ∧ 8 ≤ (holds 8).faults.entries.length ∧
    (ready.setNotice 0 ⟨true, true, 0, .sent, 0⟩ |>.notice 0).status = true ∧ (ready.notice 0).status = false := by decide
theorem witness_DueNoticesAreAnnounced :
    let after := ready.setNotice 5 ⟨true, true, 0, .pending, 255⟩
    (∀ k, (ready.notice k).mark = .pending → (ready.notice k).mark = .pending) ∧
    (after.notice 5).mark = .pending ∧ (ready.notice 5).mark ≠ .pending := by decide
theorem witness_LowestPendingNoticeIsPlaced :
    let s := egress (ready.setNotice 5 ⟨true, true, 15, .pending, 255⟩) 63
    s.resetN = true ∧ s.ulink.egress.length < 64 ∧ (s.notice 5).mark = .pending ∧ ∀ j < 5, (s.notice j).mark ≠ .pending := by
  decide
theorem witness_LineLookupExaminesTheSet :
    let s := holding ready .shared 0 .none
    s.lookup 1 = some way1 ∧ s.lookup 129 = none ∧ (s.line way1).state ≠ .invalid := by decide
theorem witness_ReadHitReturnsTheBytes :
    let s := holding ready .shared 0 .none
    (ask s readWord []).Reaches 0 (queued readWord []) readReq ∧ (queued readWord []).row = .read ∧
    (ask s readLineWord []).Reaches 0 (queued readLineWord []) (access readLineWord [] .writeBack) ∧
    (ask s readWord []).entryNaming 1 = none ∧ (ask s readWord []).lookup 1 = some way1 ∧ readReq.line = 1 :=
  ⟨reaches far (by decide), by decide, reaches far (by decide), by decide, by decide, by decide⟩
theorem witness_WriteHitStoresAndMarks :
    let owned := ask (holding ready .owned 0 .none) writeByteWord [7]
    let modified := ask (holding ready .modified 1 .none) writeWord [7]
    owned.Reaches 0 (queued writeByteWord [7]) (access writeByteWord [7] .writeBack) ∧
    modified.Reaches 0 (queued writeWord [7]) writeReq ∧ (queued writeWord [7]).row = .write ∧
    owned.entryNaming 1 = none ∧ owned.lookup 1 = some way1 ∧ (owned.line way1).state = .owned ∧
    modified.entryNaming 1 = none ∧ modified.lookup 1 = some way1 ∧ (modified.line way1).state = .modified :=
  ⟨reaches far (by decide), reaches far (by decide), by decide, by decide, by decide, by decide, by decide, by decide, by decide⟩
theorem witness_StoredBytesAndTouchedWords : (0x7F : ByteAddr).toNat % Size.b1.bytes = 0 ∧
    (0x40 : ByteAddr).toNat % Size.b64.bytes = 0 ∧ 63 < 64 ∧ 0 < 64 := by decide
/-- A list of three and of four parked requests; the link not UP; every entry in use. -/
theorem witness_AccessParkedRefusedOrLeft :
    let q := queued readWord []
    let s := ask ready readWord []
    let named (n : Nat) : State := s.setEntry 11 (some { entry .fetchS .ending none readReq with
      parked := List.replicate n readReq })
    let busy : State := { s with entries := Vector.replicate 12 (some { entry .fetchS .ending none readReq with line := 2 }) }
    (named 3).Reaches 0 q readReq ∧ (named 4).Reaches 0 q readReq ∧ (named 3).entryNaming 1 = some 11 ∧
    (named 4).entryNaming 1 = some 11 ∧ s.Reaches 0 q readReq ∧ (link s .down).Reaches 0 q readReq ∧
    busy.Reaches 0 q readReq ∧ s.entryNaming 1 = none ∧ s.work readReq = some .fetchS ∧ (link s .down).dlink.state ≠ .up ∧
    busy.dlink.state = .up ∧ busy.freeEntry = none ∧ busy.entryNaming 1 = none ∧ busy.work readReq = some .fetchS :=
  ⟨reaches far (by decide), reaches far (by decide), by decide, by decide, reaches far (by decide), reaches far (by decide),
    reaches far (by decide), by decide, by decide, by decide, by decide, by decide, by decide, by decide⟩
/-- A READ and a WRITE of an absent line, an INVALID way to choose and, with every way held or SHARED, a SHARED one. -/
theorem witness_FetchMissIssuesInItsStep :
    let s := ask ready readWord []
    let t := ask ready writeWord [7]
    let other (b : State) (v : Fin 4) : State := b.setLine ⟨1, v⟩ ⟨7, .shared, 0, words8, .none⟩
    let u := other (other (other (other s 0) 1) 2) 3
    s.Reaches 0 (queued readWord []) readReq ∧ s.work readReq = some .fetchS ∧
    t.Reaches 0 (queued writeWord [7]) writeReq ∧ t.work writeReq = some .fetchO ∧
    s.entryNaming 1 = none ∧ t.entryNaming 1 = none ∧ s.dlink.state = .up ∧ s.freeEntry = some 0 ∧ s.freeTag = some 0 ∧
    (∀ j sl, s.slot j = some sl → sl.line = 1 → sl.kind = .flush) ∧ s.chooseWay (setOf 1) = some (0, false) ∧
    (s.line way1).state = .invalid ∧
    u.Reaches 0 (queued readWord []) readReq ∧ u.work readReq = some .fetchS ∧ u.chooseWay (setOf 1) = some (0, true) ∧
    (u.line way1).state = .shared :=
  ⟨reaches far (by decide), by decide, reaches far (by decide), by decide, by decide, by decide, by decide, by decide, by decide,
    noSlots (by decide), by decide, by decide, reaches far (by decide), by decide, by decide, by decide⟩
/-- Each line of the table of section 1.7 that names work: a READ that misses, an UPGRADE, a direct access of an absent and of a
present line, and the two WRITE-THROUGH writes; a way that a FLUSH slot holds; no tag FREE. -/
theorem witness_NewEntriesFollowTheTable :
    let shared := holding ready .shared 0 .none
    let rd (p : Policy) := access readWord [] p
    let wr (p : Policy) := access writeWord [7] p
    let miss := ask ready readWord []
    let up := ask shared writeWord [7]
    let flushed := ask (holding ready .shared 0 (.slot 0)) writeWord [7]
    let dr := ask (under ready .bypass) readWord []
    let bw := ask (under ready .bypassOrdered) writeWord [7]
    let pd := ask (under shared .bypass) readWord []
    let dw := ask (under ready .writeThrough) writeWord [7]
    let st := ask (under shared .writeThrough) writeWord [7]
    let tagless := ask { ready with dlink := { ready.dlink with tags := Vector.replicate 32 (.retired 64) } } readWord []
    miss.Reaches 0 (queued readWord []) readReq ∧ miss.work readReq = some .fetchS ∧
    up.Reaches 0 (queued writeWord [7]) writeReq ∧ up.work writeReq = some .upgrade ∧ up.lookup 1 = some way1 ∧
    (∀ j, (up.line way1).holder ≠ .slot j) ∧ up.entryNaming 1 = none ∧ up.freeEntry = some 0 ∧ up.freeTag = some 0 ∧
    up.dlink.state = .up ∧ (∀ j sl, up.slot j = some sl → sl.line = 1 → sl.kind = .flush) ∧
    flushed.Reaches 0 (queued writeWord [7]) writeReq ∧ flushed.work writeReq = some .upgrade ∧
    flushed.entryNaming 1 = none ∧ flushed.freeEntry = some 0 ∧
    dr.Reaches 0 (queued readWord []) (rd .bypass) ∧ dr.work (rd .bypass) = some .directRead ∧
    bw.Reaches 0 (queued writeWord [7]) (wr .bypassOrdered) ∧ bw.work (wr .bypassOrdered) = some .directWrite ∧
    pd.Reaches 0 (queued readWord []) (rd .bypass) ∧ pd.work (rd .bypass) = some .purgeDirect ∧
    dw.Reaches 0 (queued writeWord [7]) (wr .writeThrough) ∧
    dw.work (wr .writeThrough) = some .directWrite ∧ dw.lookup 1 = none ∧
    st.Reaches 0 (queued writeWord [7]) (wr .writeThrough) ∧
    st.work (wr .writeThrough) = some .directWrite ∧ st.lookup 1 = some way1 ∧
    tagless.Reaches 0 (queued readWord []) readReq ∧ tagless.work readReq = some .fetchS ∧ tagless.freeTag = none :=
  ⟨reaches far (by decide), by decide, reaches far (by decide), by decide, by decide, by decide, by decide, by decide,
    by decide, by decide, noSlots (by decide), reaches far (by decide), by decide, by decide, by decide,
    reaches far (by decide), by decide, reaches far (by decide), by decide, reaches far (by decide), by decide,
    reaches far (by decide), by decide, by decide, reaches far (by decide), by decide, by decide,
    reaches far (by decide), by decide, by decide⟩
theorem witness_ResettingRefusalAnswersQueuedHeads :
    let s := ask (running ready .bridgeReset .refusing) readWord []
    s.resetN = true ∧ s.selectedForRefusal = some (0, queued readWord []) := by decide
/-- A management request of stream 0 that is selected and passes the checks. -/
theorem management {row : HeadRow} {w : Word} {ws : List Word} {s : State}
    (h : (ask s w ws).resetN = true ∧ (ask s w ws).selected = some (0, queued w ws) ∧ (queued w ws).row = row ∧
      ((ask s w ws).stream 0).isOpen = true ∧ (queued w ws).formOk = true ∧
      (queued w ws).tag ∉ ((ask s w ws).stream 0).outstanding ∧
      ((queued w ws).isMgmt = true → ((ask s w ws).stream 0).manage = true)) : (ask s w ws).Passes row 0 (queued w ws) :=
  passes h
theorem witness_MgmtReadReturnsTheValue : (ask ready 0x503 [0, 0]).Passes .mgmtRead 0 (queued 0x503 [0, 0]) :=
  management (by decide)
/-- Active records up to the last and past it; a fault record that is empty, and one that holds entries. -/
theorem witness_MgmtReadReturnsTheValue_records : ready.windows.active.length = 1 ∧ (0 : Fin 24).val < 1 ∧
    1 ≤ (23 : Fin 24).val ∧ ready.faults.entries = [] ∧
    ∃ f rest, (ready.log ⟨.noWindow, some 0, some 63, some 1, none, none, none⟩).faults.entries = f :: rest :=
  ⟨rfl, by decide, by decide, rfl, _, _, rfl⟩
theorem witness_RecordWordsCarryTheirFields : (ready.stream 0).outstanding.length ≤ 16 ∧ (ready.stream 0).queue.length ≤ 8 ∧
    (holding ready .owned 0 (.entry 11) |>.line way1).holder = .entry 11 ∧
    (holding ready .owned 0 (.slot 3) |>.line way1).holder = .slot 3 := by decide
/-- Fault entries without and with attempts, 255 the most; entries and slots in every phase and state, at the ends of their
counts; a line action, and a walk in its first pass with 512 ways passed over. -/
theorem witness_RecordWordsCarryTheirFields_views :
    let f (a : Option Nat) : FaultEntry := ⟨.fetchFailed, some 15, some 63, some 1, some 31, some .protocol, a⟩
    let e (ph : EntryPhase) : TrackerEntry :=
      { entry .fetchS ph (some way1) readReq with attempts := 8, parked := List.replicate 4 readReq, victim := some 3 }
    let sl (x : SlotState) : EvictionSlot := { slotOf .putback x 255 with attempts := 255 }
    let walk : Progress := { prog .storeClean .firstPass with passedOver := List.replicate 512 way1 }
    (∀ a, (f none).attempts = some a → a ≤ 255) ∧ (∀ a, (f (some 255)).attempts = some a → a ≤ 255) ∧
    (∀ ph ∈ [EntryPhase.waiting .noTag, .issued 31, .ending], (e ph).phase = ph ∧ (e ph).attempts ≤ 8 ∧
      (e ph).parked.length ≤ 4) ∧ (e .ending).way = some way1 ∧ (e .ending).victim = some 3 ∧
    (entry .directRead .ending none readReq).way = none ∧ (entry .directRead .ending none readReq).victim = none ∧
    (∀ x ∈ [SlotState.parked 11, .queued, .sending 31, .answered 31], (sl x).state = x ∧ (sl x).attempts ≤ 255) ∧
    (prog .lineDrop .waitSlot).action = .lineDrop ∧ walk.passedOver.length ≤ 512 ∧ walk.phase = .firstPass ∧
    ¬ (walk.action = .lineClean ∨ walk.action = .linePurge ∨ walk.action = .lineDrop) :=
  ⟨fun _ h => (by cases h), fun _ h => (by cases h; decide), by decide, by decide, by decide, by decide, by decide,
    by decide, by decide, le_of_eq List.length_replicate, by decide, by decide⟩
/-- A good write of stream 15 (depth 16, policy 3), and values out of range: depth 0 and 17, policy 4, stream 0 closed. -/
theorem witness_StreamRecordWriteReplacesTheSettings :
    let w : Word := 0x0000000F01000504
    (ask ready w [0x100D, 0]).Passes .streamRecordWrite 0 (queued w [0x100D, 0]) ∧ (queued w [0x100D, 0]).index = 15 ∧
    (1 ≤ bits 0x100D 8 5 ∧ bits 0x100D 8 5 ≤ 16 ∧ bits 0x100D 2 3 ≤ 3 ∧ Policy.bypassOrdered.code = bits 0x100D 2 3) ∧
    (ask ready w [0x000D, 0]).Passes .streamRecordWrite 0 (queued w [0x000D, 0]) ∧ bits 0x000D 8 5 = 0 ∧
    bits 0x110D 8 5 = 17 ∧ bits 0x1011 2 3 = 4 ∧
    (ask ready 0x0000000001000504 [0x1001, 0]).Passes .streamRecordWrite 0 (queued 0x0000000001000504 [0x1001, 0]) ∧
    bits 0x1001 0 2 ≠ 3 :=
  ⟨management (by decide), by decide, by decide, management (by decide), by decide, by decide, by decide,
    management (by decide), by decide⟩
/-- Range words of records 0 and 23, an attribute word of record 23, and attribute words with no kind and no ceiling. -/
theorem witness_StagingWindowWriteReplacesOneWord :
    let w0 : Word := 0x0000000002000504
    let w23 : Word := 0x0000001702000504
    let a23 : Word := 0x0000003702000504
    (ask ready w0 [1, 0]).Passes .stagingWindowWrite 0 (queued w0 [1, 0]) ∧ (queued w0 [1, 0]).index = (0 : Fin 24).val ∧
    (ask ready w23 [1, 0]).Passes .stagingWindowWrite 0 (queued w23 [1, 0]) ∧
    (queued w23 [1, 0]).index = (23 : Fin 24).val ∧
    (ask ready a23 [0x121, 0]).Passes .stagingWindowWrite 0 (queued a23 [0x121, 0]) ∧
    (queued a23 [0x121, 0]).index = 32 + (23 : Fin 24).val ∧ WindowKind.code .deny = bits 0x121 0 2 ∧
    Ceiling.code .bypass = bits 0x121 4 2 ∧
    (ask ready a23 [2, 0]).Passes .stagingWindowWrite 0 (queued a23 [2, 0]) ∧ 2 ≤ bits 2 0 2 ∧
    (ask ready a23 [0x30, 0]).Passes .stagingWindowWrite 0 (queued a23 [0x30, 0]) ∧ bits 0x30 4 2 = 3 :=
  ⟨management (by decide), by decide, management (by decide), by decide, management (by decide), by decide, by decide,
    by decide, management (by decide), by decide, management (by decide), by decide⟩
/-- The LINE-STORE control; timeouts 1, 255 and 0; retry limits 7 and 8. -/
theorem witness_ControlAndLinkSettingsWrites :
    let c : Word := 0x0000000200000504
    let t : Word := 0x0000000106000504
    let r : Word := 0x0000000206000504
    (ask ready c [0, 0]).Passes .lineStoreControlWrite 0 (queued c [0, 0]) ∧
    (∀ v ∈ [(1 : Word), 255, 0], (ask ready t [v, 0]).Passes .mgmtWrite 0 (queued t [v, 0])) ∧
    (∀ v ∈ [(7 : Word), 8], (ask ready r [v, 0]).Passes .mgmtWrite 0 (queued r [v, 0])) ∧
    (queued t [0, 0]).index = 1 ∧ (queued r [8, 0]).index = 2 := by
  refine ⟨management (by decide), fun v hv => ?_, fun v hv => ?_, by decide, by decide⟩
  · simp only [List.mem_cons, List.not_mem_nil, or_false] at hv
    rcases hv with rfl | rfl | rfl <;> exact management (by decide)
  · simp only [List.mem_cons, List.not_mem_nil, or_false] at hv
    rcases hv with rfl | rfl <;> exact management (by decide)
/-- Source 5: turned on with its status set, turned off while PENDING, and rewritten on. -/
theorem witness_NoticeSourceWriteMayMakeDue :
    let w : Word := 0x0000000503000504
    let s (n : NoticeSource) : State := ready.setNotice 5 n
    (ask (s ⟨true, false, 0, .none, 0⟩) w [0xF2, 0]).Passes .noticeSourceWrite 0 (queued w [0xF2, 0]) ∧
    (queued w [0xF2, 0]).index = 5 ∧ bits 0xF2 1 1 = 1 ∧
    (ask (s ⟨true, true, 0, .pending, 0⟩) w [0, 0]).Passes .noticeSourceWrite 0 (queued w [0, 0]) ∧ bits 0 1 1 = 0 ∧
    (ask (s ⟨true, true, 0, .sent, 0⟩) w [0xF2, 0]).Passes .noticeSourceWrite 0 (queued w [0xF2, 0]) :=
  ⟨management (by decide), by decide, by decide, management (by decide), by decide, management (by decide)⟩
theorem witness_StagingReloadCopiesTheActiveCopy :
    (ask ready 0x0002000002000505 [0, 0]).Passes .stagingReload 0 (queued 0x0002000002000505 [0, 0]) ∧
    0 < ready.windows.active.length ∧ ready.windows.active.length ≤ 1 :=
  ⟨management (by decide), by decide, by decide⟩
theorem witness_NoticeClearClearsTheNamedSources :
    let w : Word := 0x0001000003000505
    (ask ready w [0, 0x3F]).Passes .noticeClear 0 (queued w [0, 0x3F]) ∧ bits 0x3F 6 58 = 0 ∧
    (ask ready w [0, 0x40]).Passes .noticeClear 0 (queued w [0, 0x40]) ∧ bits 0x40 6 58 ≠ 0 :=
  ⟨management (by decide), by decide, management (by decide), by decide⟩
theorem witness_FaultTakeRemovesTheOldest :
    let w : Word := 0x0001000004000505
    let f : FaultEntry := ⟨.unknownTag, none, none, none, some 0, none, none⟩
    let eight := ready.setFaults ⟨List.replicate 8 f, 0⟩
    (ask ready w [0, 0]).Passes .faultTake 0 (queued w [0, 0]) ∧ ready.faults.entries = [] ∧
    (ask eight w [0, 0]).Passes .faultTake 0 (queued w [0, 0]) ∧ eight.faults.entries = f :: List.replicate 7 f :=
  ⟨management (by decide), by decide, management (by decide), by decide⟩
theorem witness_RetrainByLinkState :
    let w : Word := 0x0001000006000505
    ∀ x ∈ [LinkState.down, .training, .up, .faulted],
      (ask (link ready x) w [0, 0]).Passes .dlinkRetrain 0 (queued w [0, 0]) := by
  intro w x hx
  simp only [List.mem_cons, List.not_mem_nil, or_false] at hx
  rcases hx with rfl | rfl | rfl | rfl <;> exact management (by decide)
/-- A busy engine; a record that starts after its end; two that overlap; a table that passes. -/
theorem witness_CommitValidatesSwapsAndDrains :
    let w : Word := 0x0001000002000505
    let staged (k : Fin 24) (r : WindowRecord) (s : State) : State :=
      s.setWindows { s.windows with staging := s.windows.staging.set k r }
    let back := staged 23 ⟨true, 2, 1, .far, .writeBack, false⟩ ready
    let twice := staged 23 far (staged 0 far ready)
    let good := staged 0 far ready
    (ask (running ready .lineClean .waitLine) w [0, 0]).Passes .commitWindows 0 (queued w [0, 0]) ∧
    (ask back w [0, 0]).Passes .commitWindows 0 (queued w [0, 0]) ∧ back.windows.staging[23].last < 2 ∧
    (ask twice w [0, 0]).Passes .commitWindows 0 (queued w [0, 0]) ∧ twice.windows.staging[23] = far ∧
    twice.windows.staging[0] = far ∧
    (ask good w [0, 0]).Passes .commitWindows 0 (queued w [0, 0]) ∧ good.engine = none ∧
    (∀ k : Fin 24, good.windows.staging[k].inUse = true → k = 0) :=
  ⟨management (by decide), management (by decide), by decide, management (by decide), by decide, by decide,
    management (by decide), by decide, by decide⟩
theorem witness_BridgeResetAbortsAndTakesTheEngine :
    let w : Word := 0x0001000000000505
    (ask ready w [0, 0]).Passes .bridgeReset 0 (queued w [0, 0]) ∧ ready.engine = none ∧
    (ask (running ready .storeClean .firstPass) w [0, 0]).Passes .bridgeReset 0 (queued w [0, 0]) :=
  ⟨management (by decide), by decide, management (by decide)⟩
/-- The five actions with an idle engine, one with a busy one, and the largest line address and one bit above it. -/
theorem witness_ActionsTakeTheIdleEngine :
    let w (k : Nat) : Word := BitVec.ofNat 64 (k * 2 ^ 48 + 0x05000505)
    (ask ready (w 1) [0, 0x3FFFFFFFF]).Passes .lineClean 0 (queued (w 1) [0, 0x3FFFFFFFF]) ∧
    bits 0x3FFFFFFFF 34 30 = 0 ∧
    (ask ready (w 2) [0, 0x400000000]).Passes .linePurge 0 (queued (w 2) [0, 0x400000000]) ∧
    bits 0x400000000 34 30 ≠ 0 ∧
    (ask ready (w 3) [0, 1]).Passes .lineDrop 0 (queued (w 3) [0, 1]) ∧
    (ask ready (w 4) [0, 0]).Passes .storeClean 0 (queued (w 4) [0, 0]) ∧
    (ask (running ready .commit .drain) (w 5) [0, 0]).Passes .storePurge 0 (queued (w 5) [0, 0]) ∧ ready.engine = none :=
  ⟨management (by decide), by decide, management (by decide), by decide, management (by decide), management (by decide),
    management (by decide), by decide⟩
/-- Each of the three actions in WAIT-LINE and WAIT-SLOT with its repeat owed; an absent, a closed, a kept and a treated
line; with and without a FREE slot. -/
theorem witness_LineActionTreatsWhatItFinds :
    let owed (a : Action) (ph : EnginePhase) : State :=
      (holding ready .modified 1 .none).setEngine (some { prog a ph with wake := true })
    let full : State := { holding ready .owned 0 .none with
      slots := Vector.replicate 4 (some { slotOf .release .queued 0 with line := 2 }) }
    (∀ a ∈ [Action.lineClean, .linePurge, .lineDrop], ∀ ph ∈ [EnginePhase.waitLine, .waitSlot],
      (owed a ph).resetN = true ∧ (owed a ph).engine = some { prog a ph with wake := true }) ∧
    ready.lookup 1 = none ∧ (holding ready .shared 0 (.entry 0)).lookup 1 = some way1 ∧
    (holding ready .shared 0 .none).lookup 1 = some way1 ∧ (∀ n, (holding ready .shared 0 .none).entry n = none) ∧
    full.lookup 1 = some way1 ∧ (full.line way1).holder = .none ∧ full.freeSlot = none ∧
    (owed .lineClean .waitLine).freeSlot = some 0 ∧ ((owed .lineClean .waitLine).line way1).state = .modified := by decide
/-- First passes and revisits of a walk and of a reset purge, at the first, a middle and the last way. -/
theorem witness_WalksVisitInOrderAndRevisitOnce :
    let at_ (a : Action) (ph : EnginePhase) (w : WayRef) : Progress := { prog a ph with position := w, passedOver := [way1] }
    (∀ aph ∈ [(Action.storeClean, EnginePhase.firstPass), (.bridgeReset, .purgeFirstPass), (.commit, .revisit),
        (.bridgeReset, .purgeRevisit)], (ready.setEngine (some (at_ aph.1 aph.2 ⟨127, 3⟩))).engine =
          some (at_ aph.1 aph.2 ⟨127, 3⟩) ∧ (at_ aph.1 aph.2 ⟨127, 3⟩).walkWait = .none ∧
          (at_ aph.1 aph.2 ⟨127, 3⟩).passedOver = [way1]) ∧
    ready.resetN = true ∧ (ready.closed way1 = false) ∧ (holding ready .shared 0 (.entry 0)).closed way1 = true ∧
    ({ prog .storeClean .firstPass with position := ⟨127, 3⟩ } : Progress).passedOver = [] ∧
    ({ prog .storeClean .firstPass with position := ⟨126, 3⟩ } : Progress).position.set ≠ 127 := by decide
/-- The four walks at ways INVALID, SHARED, OWNED and MODIFIED, with all slots in use and with one FREE. -/
theorem witness_WalkTreatsAnOpenWay :
    let full : State := { holding ready .modified 1 .none with
      slots := Vector.replicate 4 (some { slotOf .release .queued 0 with line := 2 }) }
    (ready.line way1).state = .invalid ∧ (holding ready .shared 0 .none |>.line way1).state = .shared ∧
    (prog .storePurge .firstPass).action = .storePurge ∧ full.freeSlot = none ∧ (full.line way1).state = .modified ∧
    (holding ready .owned 0 .none).freeSlot = some 0 ∧ (holding ready .owned 0 .none |>.line way1).state = .owned ∧
    (windowed ready { far with ceiling := .writeThrough }).windows.covering (granuleOfLine 1) =
      some { far with ceiling := .writeThrough } ∧
    (windowed ready { far with ceiling := .bypass }).windows.covering (granuleOfLine 1) =
      some { far with ceiling := .bypass } ∧
    lineAt (holding ready .owned 0 .none |>.line way1).tag way1.set = 1 := by decide
/-- Each phase that ends by itself, with what it waits for present and absent. -/
theorem witness_EnginePhasesEndThemselves :
    let s (a : Action) (ph : EnginePhase) : State := running ready a ph
    let old := (s .commit .drain).setEntry 0 (some { entry .fetchS .ending none readReq with epoch := 9 })
    State.reset.engine = none ∧ (s .lineClean .waitFree).engine = some (prog .lineClean .waitFree) ∧
    (prog .lineClean .waitFree).own = [] ∧ (∀ st, ((s .bridgeReset .refusing).stream st).queue = []) ∧
    ((ask (s .bridgeReset .refusing) readWord []).stream 0).queue ≠ [] ∧
    (∀ n, (s .bridgeReset .drain).entry n = none) ∧ old.entry 0 ≠ none ∧ old.windows.epoch ≠ 9 ∧
    (∀ k, (s .bridgeReset .settle).slot k = none) ∧
    ((s .bridgeReset .settle).setSlot 3 (some (slotOf .release .queued 0))).slot 3 ≠ none ∧
    EnginePhase.firstPass ∉ [EnginePhase.waitFree, .refusing, .drain, .settle] := by decide
theorem witness_EnginePhasesEndThemselves_sameEpoch :
    ∀ n e, (running ready .commit .drain).entry n = some e → e.epoch = (running ready .commit .drain).windows.epoch :=
  noEntries (by decide)
theorem witness_FinishedActionsReportAndFreeTheEngine :
    let p : Progress := { prog .storePurge .finishing with purged := 512 }
    p.purged ≤ 512 ∧ p.cleaned ≤ 512 ∧ p.skipped ≤ 512 ∧ (egress ready 63).ulink.egress.length < 64 ∧
    64 ≤ (egress ready 64).ulink.egress.length ∧ (ready.setEngine (some p)).engine = some p ∧ p.phase = .finishing ∧
    ready.resetN = true ∧ (prog .bridgeReset .finishing).action = .bridgeReset ∧
    (prog .lineDrop .finishing).action = .lineDrop := by decide
/-- An ENDING entry whose front request carries a failure mark, was answered, hits, or turns the entry into each kind. -/
theorem witness_ParkedRequestsAreServed :
    let e (k : EntryKind) (r : Request) : TrackerEntry := entry k .ending none r
    let s (b : State) (x : TrackerEntry) : State := b.setEntry 0 (some x)
    let br := access readWord [] .bypass
    let wt := access writeWord [7] .writeThrough
    let shared := holding ready .shared 0 .none
    (s ready (e .fetchS readReq)).resetN = true ∧ (egress ready 63).ulink.egress.length < 64 ∧
    (s ready (e .fetchS readReq)).entry 0 = some (e .fetchS readReq) ∧ (e .fetchS readReq).phase = .ending ∧
    (e .fetchS readReq).parked = [readReq] ∧
    ({ readReq with failure := some .failed } : Request).failure = some .failed ∧
    ({ readReq with failure := some .linkDown } : Request).failure = some .linkDown ∧ readReq.failure = none ∧
    ({ e .directRead br with answer := .wordData [7] } : TrackerEntry).answer = .wordData [7] ∧
    ({ e .directWrite wt with answer := .done } : TrackerEntry).answer = .done ∧
    (s shared (e .fetchS readReq)).work readReq = none ∧ (s shared (e .fetchS readReq)).lookup readReq.line = some way1 ∧
    (s ready (e .fetchS readReq)).work readReq = some .fetchS ∧ (s ready (e .fetchS writeReq)).work writeReq = some .fetchO ∧
    (s shared (e .fetchS writeReq)).work writeReq = some .upgrade ∧ (s ready (e .fetchS br)).work br = some .directRead ∧
    (s shared (e .fetchS br)).work br = some .purgeDirect ∧ (s ready (e .fetchS wt)).work wt = some .directWrite ∧
    (s ready (e .fetchS wt)).lookup wt.line = none ∧ (s shared (e .fetchS wt)).work wt = some .directWrite ∧
    (s shared (e .fetchS wt)).lookup wt.line = some way1 := by decide
/-- A waiting FETCH entry; a set with an INVALID way, with every way held, and with only OWNED lines, with and without a
FREE slot. -/
theorem witness_VictimChoiceTakesEffectWhole :
    let e : TrackerEntry := entry .fetchS (.waiting .noWay) none readReq
    let s : State := ready.setEntry 0 (some e)
    let fill (x : LineState) (h : Holder) (b : State) : State :=
      [0, 1, 2, 3].foldl (fun b (v : Fin 4) => b.setLine ⟨1, v⟩ ⟨7, x, 0, words8, h⟩) b
    let owned := (fill .owned .none s).setVictim 1 3
    s.resetN = true ∧ s.entry 0 = some e ∧ e.kind = .fetchS ∧ e.phase = .waiting .noWay ∧ setOf e.line = 1 ∧
    s.chooseWay 1 = some (0, false) ∧ (∀ v, ((fill .invalid (.entry 5) s).line ⟨1, v⟩).holder ≠ .none) ∧
    owned.chooseWay 1 = some (3, true) ∧ (owned.line ⟨1, 3⟩).state = .owned ∧ owned.freeSlot = some 0 ∧
    ({ owned with slots := Vector.replicate 4 (some (slotOf .release .queued 0)) } : State).freeSlot = none ∧
    ((fill .shared .none s).line ⟨1, 0⟩).state = .shared ∧ (fill .shared .none s).chooseWay 1 = some (0, true) := by decide
/-- Entries of each kind at step 1, a slot in the way and a FLUSH that holds the way; a PURGE-DIRECT entry that owes its
eviction step, for lines absent, SHARED and OWNED. -/
theorem witness_StepsBeforeIssue :
    let wait (k : EntryKind) : TrackerEntry := { entry k (.waiting .noSlot) none readReq with wake := true }
    let s (b : State) (k : EntryKind) : State := b.setEntry 0 (some (wait k))
    (∀ k ∈ [EntryKind.fetchS, .fetchO, .upgrade, .directRead, .directWrite, .purgeDirect],
      (s ready k).entry 0 = some (wait k)) ∧
    (s (ready.setSlot 3 (some (slotOf .putback .queued 1))) .fetchS).slot 3 = some (slotOf .putback .queued 1) ∧
    (s (holding ready .owned 0 (.slot 2)) .upgrade).lookup 1 = some way1 ∧
    (s (holding ready .shared 0 .none) .purgeDirect).lookup 1 = some way1 ∧ (s ready .purgeDirect).lookup 1 = none ∧
    (s ready .purgeDirect).resetN = true ∧ (wait .purgeDirect).phase = .waiting .noSlot ∧ (wait .purgeDirect).wake = true ∧
    (s (holding ready .owned 0 .none) .purgeDirect).freeSlot = some 0 ∧
    ({ s (holding ready .owned 0 .none) .purgeDirect with
      slots := Vector.replicate 4 (some { slotOf .release .queued 0 with line := 2 }) } : State).freeSlot = none := by decide
theorem witness_StepsBeforeIssue_clear : ∀ k sl, ready.slot k = some sl → sl.line = 1 → sl.kind = .flush := noSlots (by decide)
/-- An entry that waits NO-TAG and a QUEUED slot; a tag FREE, none FREE, the link DOWN; a slot past the limit; and an entry
that waits for a slot's sending. -/
theorem witness_TagsAreTakenLowestFirst :
    let e : TrackerEntry := entry .upgrade (.waiting .noTag) (some way1) writeReq
    let s : State := ready.setEntry 0 (some e)
    let none_ : State := s.setDLink { s.dlink with tags := Vector.replicate 32 (.retired 64) }
    let q : State := ready.setSlot 3 (some (slotOf .putback .queued 0x80))
    let sl (n : Nat) : EvictionSlot := { slotOf .putback .queued 0x80 with attempts := n }
    let w : State := ready.setEntry 11 (some (entry .purgeDirect (.waiting .slotNotSent) none readReq))
    s.resetN = true ∧ s.entry 0 = some e ∧ e.phase = .waiting .noTag ∧ (link s .down).dlink.state ≠ .up ∧
    none_.freeTag = none ∧ none_.dlink.state = .up ∧ s.freeTag = some 0 ∧ e.parked = [writeReq] ∧
    q.slot 3 = some (slotOf .putback .queued 0x80) ∧ q.freeTag = some 0 ∧ q.dlink.state = .up ∧
    (1 + ready.dlink.retryLimit.toNat < min 255 ((sl 3).attempts + 1)) ∧
    ¬ (1 + ready.dlink.retryLimit.toNat < min 255 ((sl 2).attempts + 1)) ∧ (sl 3).stallReported = false ∧
    w.entry 11 = some (entry .purgeDirect (.waiting .slotNotSent) none readReq) ∧ (∀ m, m ≠ 11 → w.entry m = none) ∧
    w.dlink.state = .up ∧ (∀ n, ready.entry n = none) := by decide
/-- Entries with no way, with a way, with a way and a PARKED victim, and with bytes stored into a SHARED line. -/
theorem witness_FinalFailureIsTakenWhole :
    let e (way : Option WayRef) : TrackerEntry := entry .fetchS (.issued 3) way readReq
    let v : TrackerEntry := { e (some way1) with victim := some 0 }
    let d : TrackerEntry := { entry .directWrite (.issued 3) none writeReq with storedShared := true }
    let s (x : TrackerEntry) : State := (holding ready .shared 0 .none).setEntry 0 (some x)
    let parked := slotOf .putback (.parked 0) 1
    (s (e none)).entry 0 = some (e none) ∧ (e none).way = none ∧ (e none).victim = none ∧ (e none).storedShared = false ∧
    (e (some way1)).way = some way1 ∧ v.victim = some 0 ∧ ((s v).setSlot 0 (some parked)).slot 0 = some parked ∧
    parked.state = .parked 0 ∧ d.storedShared = true ∧ (s d).lookup d.line = some way1 ∧ d.way = none := by decide
/-- A fitting reply of each kind, to an entry of each kind that takes it. -/
theorem witness_FittingRepliesEndTheWork :
    let br := access readWord [] .bypass
    let bw := access writeWord [7] .bypass
    let conv : TrackerEntry := { entry .upgrade (.issued 3) (some way1) writeReq with converted := true }
    let wd : Frame := frame 0x00030316 [7]
    (issued .fetchS (some way1) readReq).Replies (.whole (dataWords 0x312)) (.dataS 3 1 words8) [] 3 (.entry 0) ∧
    (issued .fetchO (some way1) writeReq).Replies (.whole (dataWords 0x313)) (.dataO 3 1 words8) [] 3 (.entry 0) ∧
    (issued .upgrade (some way1) writeReq).Replies (.whole (frame 0x314 [1])) (.grant 3 1) [] 3 (.entry 0) ∧
    (issued .directRead none br).Replies (.whole wd) (.wordData 3 3 [7]) [] 3 (.entry 0) ∧
    (issued .purgeDirect none br).Replies (.whole wd) (.wordData 3 3 [7]) [] 3 (.entry 0) ∧
    (issued .directWrite none bw).Replies (.whole (frame 0x315 [])) (.done 3) [] 3 (.entry 0) ∧
    (issued .purgeDirect none bw).Replies (.whole (frame 0x315 [])) (.done 3) [] 3 (.entry 0) ∧
    conv.converted = true ∧ br.size.code = 3 ∧ br.isWrite = false ∧ bw.isWrite = true ∧ (entry .fetchS .ending none br).line = 1 ∧
    (issued .fetchS (some way1) readReq).entry 0 = some (entry .fetchS (.issued 3) (some way1) readReq) :=
  ⟨replies (dataWords 0x312) (by decide), replies (dataWords 0x313) (by decide), replies (frame 0x314 [1]) (by decide),
    replies (frame 0x00030316 [7]) (by decide), replies (frame 0x00030316 [7]) (by decide),
    replies (frame 0x315 []) (by decide), replies (frame 0x315 []) (by decide),
    by decide, by decide, by decide, by decide, by decide, by decide⟩
/-- Replies to a SENDING PUTBACK and to an ANSWERED FLUSH, of each kind. -/
theorem witness_RepliesToSlots :
    let p := slotOf .putback (.sending 3) 1
    let f := slotOf .flush (.answered 3) 1
    (sentSlot p).Replies (.whole (frame 0x315 [])) (.done 3) [] 3 (.slot 0) ∧
    (sentSlot f).Replies (.whole (frame 0x317 [])) (.refused 3) [] 3 (.slot 0) ∧
    (sentSlot p).Replies (.whole (frame 0x00C00318 [])) (.error 3 .protocol) [] 3 (.slot 0) ∧
    (sentSlot p).Replies (.whole (frame 0x314 [1])) (.grant 3 1) [] 3 (.slot 0) ∧
    (sentSlot p).slot 0 = some p ∧ p.state = .sending 3 ∧ (sentSlot f).slot 0 = some f ∧ f.state = .answered 3 :=
  ⟨replies (frame 0x315 []) (by decide), replies (frame 0x317 []) (by decide), replies (frame 0x00C00318 []) (by decide),
    replies (frame 0x314 [1]) (by decide), by decide, by decide, by decide, by decide⟩
/-- An entry below the limit and at it; a REFUSED, an ERROR and each mismatch; an expiry for an entry and for a slot. -/
theorem witness_FailedAttemptsRetryUpToTheLimit :
    let s := issued .fetchS (some way1) readReq
    let e (n : Nat) : TrackerEntry := { entry .fetchS (.issued 3) (some way1) readReq with attempts := n }
    s.Replies (.whole (frame 0x317 [])) (.refused 3) [] 3 (.entry 0) ∧
    s.Replies (.whole (frame 0x00400318 [])) (.error 3 .poisoned) [] 3 (.entry 0) ∧
    s.Replies (.whole (frame 0x314 [1])) (.grant 3 1) [] 3 (.entry 0) ∧
    s.Replies (.whole (frame 0x315 [])) (.done 3) [] 3 (.entry 0) ∧
    (issued .upgrade (some way1) writeReq).Replies (.whole (dataWords 0x312)) (.dataS 3 1 words8) [] 3 (.entry 0) ∧
    (issued .upgrade (some way1) writeReq).Replies (.whole (dataWords 0x313)) (.dataO 3 1 words8) [] 3 (.entry 0) ∧
    s.Replies (.whole (frame 0x00030316 [7])) (.wordData 3 3 [7]) [] 3 (.entry 0) ∧
    (e 2).attempts < 1 + s.dlink.retryLimit.toNat ∧ ¬ (e 3).attempts < 1 + s.dlink.retryLimit.toNat ∧
    s.resetN = true ∧ s.tag 3 = .inUse (.entry 0) 16 ∧
    (sentSlot (slotOf .putback (.sending 3) 1)).tag 3 = .inUse (.slot 0) 16 ∧
    (sentSlot (slotOf .flush (.answered 3) 1)).slot 0 = some (slotOf .flush (.answered 3) 1) :=
  ⟨replies (frame 0x317 []) (by decide), replies (frame 0x00400318 []) (by decide), replies (frame 0x314 [1]) (by decide),
    replies (frame 0x315 []) (by decide), replies (dataWords 0x312) (by decide), replies (dataWords 0x313) (by decide),
    replies (frame 0x00030316 [7]) (by decide), by decide, by decide, by decide, by decide, by decide, by decide⟩
theorem witness_StaleAndUnknownReplies :
    let r : State := ready.setTag 3 (.retired 64)
    r.Receives (.whole (frame 0x315 [])) (.done 3) [] ∧ r.tag 3 = .retired 64 ∧ r.dlink.state = .up ∧
    ready.Receives (.whole (frame 0x00400318 [])) (.error 3 .poisoned) [] ∧ ready.tag 3 = .free ∧
    (link ready .training).Receives (.whole (frame 0x315 [])) (.done 3) [] ∧ (link ready .training).dlink.state ≠ .up ∧
    (link ready .faulted).Receives (.whole (frame 0x0919 [1])) (.recallShare 9 1) [] ∧
    (link ready .training).Receives (.whole (frame 0x091A [1])) (.recallDrop 9 1) [] ∧
    ready.Receives (.whole (frame 0x11 [0x12340040])) (.helloAck 64 0x1234) [] ∧ ready.dlink.state ≠ .training ∧
    (∀ w, ready.tag 3 ≠ .retired w) ∧ ready.resetN = true :=
  ⟨receives (frame 0x315 []) (by decide), by decide, by decide, receives (frame 0x00400318 []) (by decide), by decide,
    receives (frame 0x315 []) (by decide), by decide, receives (frame 0x0919 [1]) (by decide),
    receives (frame 0x091A [1]) (by decide), receives (frame 0x11 [0x12340040]) (by decide), by decide,
    (fun w h => by rw [show ready.tag 3 = .free by decide] at h; cases h), by decide⟩
/-- Recalls of a line in an open way, in a converted UPGRADE's way, in a way a FLUSH holds, in a QUEUED, SENDING or PARKED
slot, and of no line. -/
theorem witness_RecallsAreAnsweredFromWhatIsFound :
    let drop : Arrival := .whole (frame 0x091A [1])
    let up := (holding ready .shared 0 (.entry 0)).setEntry 0 (some (entry .upgrade (.issued 3) (some way1) writeReq))
    let fl := (holding ready .owned 0 (.slot 0)).setSlot 0 (some (slotOf .flush .queued 1))
    let sl (x : SlotState) : State := ready.setSlot 3 (some (slotOf .putback x 1))
    ready.Receives drop (.recallDrop 9 1) [] ∧ ready.dlink.state = .up ∧
    (holding ready .modified 1 .none).lookup 1 = some way1 ∧ (holding ready .modified 1 .none |>.line way1).holder = .none ∧
    up.lookup 1 = some way1 ∧ (up.line way1).state = .shared ∧ (up.line way1).holder = .entry 0 ∧
    fl.lookup 1 = some way1 ∧ (fl.line way1).holder = .slot 0 ∧ fl.slot 0 = some (slotOf .flush .queued 1) ∧
    ready.lookup 1 = none ∧ (∀ x ∈ [SlotState.queued, .sending 3, .parked 0], (sl x).slot 3 = some (slotOf .putback x 1) ∧
      (sl x).lookup 1 = none ∧ ∀ j < 3, (sl x).slot j = none) :=
  ⟨receives (frame 0x091A [1]) (by decide), by decide, by decide, by decide, by decide, by decide, by decide, by decide,
    by decide, by decide, by decide, by decide⟩
theorem witness_RecallsAreAnsweredFromWhatIsFound_nowhere : ∀ k sl,
    ¬ (ready.slot k = some sl ∧ sl.line = 1 ∧ sl.kind ≠ .flush ∧ ∀ u, sl.state ≠ .answered u) :=
  fun k sl h => noSlots (P := fun _ _ => False) (by decide) k sl h.1
/-- The link comes up with a QUEUED slot and an entry it held back, and with one that waits for another reason. -/
theorem witness_LinkRows_heldBack :
    let e := entry .purgeDirect (.waiting .slotNotSent) none readReq
    let s := (ready.setSlot 0 (some (slotOf .release .queued 0))).setEntry 0 (some e)
    let sent := s.askTag 0
    sent.entry 0 = some e ∧ e.phase = .waiting .slotNotSent ∧ ((sent.slot 0).map (·.state)) = some (.sending 0) ∧
    (∀ k, k ≠ 0 → sent.slot k = none) ∧ (entry .fetchS (.waiting .noWay) none readReq).phase ≠ .waiting .slotNotSent := by
  decide
theorem witness_LinkRows :
    ready.resetN = true ∧ ready.dlink.signal = true ∧ State.reset.dlink.signal = false ∧ ready.dlink.state = .up ∧
    (link ready .training).dlink.state = .training ∧ (link ready .down).dlink.state = .down ∧
    (link ready .training).Receives (.whole (frame 0x11 [0x12340040])) (.helloAck 64 0x1234) [] ∧
    (link ready .training).Receives (.whole (frame 0x11 [0x12340041])) (.helloAck 65 0x1234) [] ∧
    ready.slot 0 = none ∧ (sentSlot (slotOf .flush (.sending 3) 1)).slot 0 = some (slotOf .flush (.sending 3) 1) ∧
    (sentSlot (slotOf .putback (.answered 3) 1)).slot 0 = some (slotOf .putback (.answered 3) 1) ∧
    (ready.setSlot 0 (some (slotOf .release .queued 0))).slot 0 = some (slotOf .release .queued 0) :=
  ⟨by decide, by decide, by decide, by decide, by decide, by decide, receives (frame 0x11 [0x12340040]) (by decide),
    receives (frame 0x11 [0x12340041]) (by decide), by decide, by decide, by decide, by decide⟩
/-- A walk in its first pass at set 1 way 2 with all four slots, two ways passed over and four counted; one in its revisit with the
last way to come and 511 ways counted; and a reset in REFUSING. -/
theorem witness_CapacitiesHoldAfterEveryStep :
    let pass : Progress := { prog .storePurge .firstPass with
      position := ⟨1, 2⟩, passedOver := [⟨0, 3⟩, ⟨1, 0⟩], own := [3, 2, 1, 0], purged := 3, cleaned := 1 }
    let last : Progress := { prog .commit .revisit with passedOver := [⟨127, 3⟩], purged := 500, skipped := 11 }
    pass.WithinCapacities ∧ last.WithinCapacities ∧ (prog .bridgeReset .refusing).WithinCapacities :=
  ⟨⟨by decide, by decide, by decide, by decide, by decide, by decide, by decide, by decide, by decide, by decide⟩,
    ⟨by decide, by decide, by decide, by decide, by decide, by decide, by decide, by decide, by decide, by decide⟩,
    ⟨by decide, by decide, by decide, by decide, by decide, by decide, by decide, by decide, by decide, by decide⟩⟩
/-- A working state with a command in its queue meets every premise of the invariants, and steps. -/
theorem witness_Invariants : ready.StreamsLegal ∧ ready.windows.Sorted ∧ ready.AttemptsLegal ∧ ready.LinesDistinct ∧
    ready.WithinCapacities ∧ ready.MarksAgree ∧ ({ State.reset with resetN := false } : State).LowHolds ∧
    ∃ t, step { ready with pending := [.signalLost] } = .next t := by
  refine ⟨⟨fun st => ⟨?_, ?_, ?_, ?_⟩, by decide, by decide⟩, ⟨by decide, by decide⟩,
    ⟨by decide, by decide, noEntries (by decide), fun n e w h => ?_⟩, fun m n a b _ h => ?_,
    ⟨by decide, by decide, by decide, by decide, by decide, noEntries (by decide), by decide, by decide, fun p h => ?_⟩,
    ⟨fun w => ?_, noSlots (by decide)⟩, fun _ => rfl, _, rfl⟩
  · revert st; decide
  · revert st; decide
  · revert st; decide
  · revert st; decide
  · exact noEntries (P := fun _ _ => _) (by decide) n e h
  · exact noEntries (P := fun _ _ => _) (by decide) m a h
  · cases h
  · have : ready.line w = LineRecord.reset := by simp [State.line, ready, State.reset, resetStore]
    rw [this]; simp [LineRecord.MarksAgree, LineRecord.reset]

end Sys2Proof.Tests
end

section
/-! PROOFS. The lookup of a line address (chapter 1, R5): what it answers, in terms of the ways of the address's set. -/

namespace Sys2Proof.Machine

open Sys2Proof (LineAddr)

/-- Way `w` holds line `l` (R1, R5): it is one of the four ways of the line's set, it is not INVALID, and its tag is the line's. -/
def State.HoldsLine (s : State) (l : LineAddr) (w : WayRef) : Prop :=
  w.set.val = l.toNat % 128 ∧ (s.line w).state ≠ .invalid ∧ (s.line w).tag.toNat = l.toNat / 128

theorem tagOf_toNat (l : LineAddr) : (tagOf l).toNat = l.toNat / 128 := by
  have := l.isLt
  unfold tagOf
  rw [BitVec.toNat_ofNat]
  omega

theorem LineRecord.holdsTag_iff (r : LineRecord) (l : LineAddr) :
    r.holdsTag l = true ↔ r.state ≠ .invalid ∧ r.tag.toNat = l.toNat / 128 := by
  simp [LineRecord.holdsTag, ← tagOf_toNat, BitVec.toNat_inj]

/-- The model's comparison, made at a way of the line's set, is the one R5 states. -/
theorem State.holdsLine_iff (s : State) (l : LineAddr) (w : WayRef) :
    s.HoldsLine l w ↔ w.set = setOf l ∧ (s.line w).holdsTag l = true := by
  rw [LineRecord.holdsTag_iff, Fin.ext_iff]
  rfl

theorem State.holdsLine_of_lookup {s : State} {l : LineAddr} {w : WayRef} (h : s.lookup l = some w) : s.HoldsLine l w := by
  obtain ⟨htag, hset⟩ := State.holdsTag_of_lookup h
  exact (s.holdsLine_iff l w).2 ⟨hset, htag⟩

/-- A way that holds the line is in the line's set, so the search through that set meets it and does not come back empty. -/
theorem State.lookup_ne_none_of_holdsLine {s : State} {l : LineAddr} {w : WayRef} (h : s.HoldsLine l w) :
    s.lookup l ≠ none := by
  obtain ⟨set, way⟩ := w
  obtain ⟨hset, htag⟩ := (s.holdsLine_iff l _).1 h
  dsimp only at hset
  subst hset
  intro hnone
  have hall := (find_finRange_none _).1 (Option.map_eq_none_iff.1 hnone)
  exact Bool.false_ne_true ((hall way).symm.trans htag)

theorem State.lookup_eq_none_iff (s : State) (l : LineAddr) : s.lookup l = none ↔ ∀ w, ¬ s.HoldsLine l w := by
  constructor
  · intro hnone w hw
    exact State.lookup_ne_none_of_holdsLine hw hnone
  · intro hno
    cases hl : s.lookup l with
    | none => rfl
    | some w => exact absurd (State.holdsLine_of_lookup hl) (hno w)

/-- Where one way only holds the line (R4), the lookup answers that way. -/
theorem State.lookup_eq_some_of_unique {s : State} {l : LineAddr} {w : WayRef} (hw : s.HoldsLine l w)
    (huniq : ∀ x, s.HoldsLine l x → x = w) : s.lookup l = some w := by
  obtain ⟨x, hx⟩ := Option.ne_none_iff_exists'.1 (State.lookup_ne_none_of_holdsLine hw)
  rw [hx, huniq x (State.holdsLine_of_lookup hx)]

/-- Nothing but the line store is looked at (R5). -/
theorem State.lookup_congr_store {s t : State} (h : t.store = s.store) (l : LineAddr) : t.lookup l = s.lookup l := by
  have hline (w : WayRef) : t.line w = s.line w := by unfold State.line; rw [h]
  unfold State.lookup
  simp only [hline]

/-- Settles O19, by the search through the four ways of the line's set. -/
theorem lineLookupExaminesTheSet : Obligations.LineLookupExaminesTheSet := by
  intro s l
  exact ⟨s.lookup_eq_none_iff l, fun _ => State.holdsLine_of_lookup, fun _ => State.lookup_eq_some_of_unique,
    fun _ h => State.lookup_congr_store h l⟩

end Sys2Proof.Machine
end

section
/-! PROOFS. NOTICE-CLEAR (chapter 9, R187): what clearing by a mask leaves in each source, and what the command answers. -/

namespace Sys2Proof.Machine

open Sys2Proof (Word)

/-- A head that is taken and answered in the step of its admission leaves what the claims call `answered` (R113, R116). -/
theorem State.answer_take (s : State) (st : Fin 16) (q : QueuedFrame) (x : Status) (words : List Word) :
    (s.take st).answer st q x words = s.answered st q x words := rfl

/-- Where bit `k` of the mask is set the status and the mark are cleared, and every other source stands (R187). -/
theorem State.clearNotices_notice (s : State) (mask : Word) (k : Fin 6) :
    (s.clearNotices mask).notice k =
      if bits mask k.val 1 = 1 then { s.notice k with status := false, mark := .none } else s.notice k := by
  have hcleared : (s.clearNotices mask).notice k = if flag mask k.val then (s.notice k).cleared else s.notice k := by
    simp [State.clearNotices, State.notice]
  rw [hcleared, flag_eq]
  simp only [decide_eq_true_eq]
  rfl

/-- The completion is formed without a look at the notice sources, so clearing them before it is clearing them after it. -/
theorem State.answer_clearNotices (s : State) (mask : Word) (st : Fin 16) (q : QueuedFrame) (x : Status)
    (words : List Word) :
    (s.clearNotices mask).answer st q x words =
      { s.answer st q x words with notices := (s.clearNotices mask).notices } := rfl

/-- What NOTICE_CLEAR does with a head request that passes the checks, by the bits of its mask above source 5. -/
theorem State.Passes.exec_noticeClear {s : State} {st : Fin 16} {q : QueuedFrame} (h : s.Passes .noticeClear st q) :
    exec .noticeClear s = .next
      (if bits q.argument 6 58 ≠ 0 then (s.take st).answer st q .invalidValue []
        else ((s.take st).clearNotices q.argument).answer st q .ok []) := by
  have hexec : exec .noticeClear s = execNoticeClear s := rfl
  rw [hexec, execNoticeClear, whileRunning_high h.running, h.admitMgmt]

/-- Settles O34, by the two branches of the command: a mask with a bit above source 5, and one without. -/
theorem noticeClearClearsTheNamedSources : Obligations.NoticeClearClearsTheNamedSources := by
  intro s st q h
  constructor
  · intro hbad
    rw [h.exec_noticeClear, if_pos hbad, State.answer_take]
  · intro hgood
    refine ⟨((s.take st).clearNotices q.argument).notices, ?_, (s.take st).clearNotices_notice q.argument⟩
    rw [h.exec_noticeClear, if_neg (not_not_intro hgood), State.answer_clearNotices, State.answer_take]

end Sys2Proof.Machine
end

section
/-! PROOFS. The state after reset (R22, R78, R99, R124, R166, R183, R189, R194): what each accessor reads of it, the power-on
values, and that every invariant holds of it. -/

namespace Sys2Proof.Machine

-- Proofs are elaborated one after another: the threads of proofs that wait for each other do not fit the memory of the check.
set_option Elab.async false

open Sys2Proof (Instr)

/-! ## What the accessors read of the state after reset -/

@[simp] theorem State.reset_line (w : WayRef) : State.reset.line w = LineRecord.reset := by
  simp [State.reset, State.line, resetStore]

@[simp] theorem State.reset_victim (c : Fin 128) : State.reset.victim c = 0 := by
  simp [State.reset, State.victim, resetStore]

@[simp] theorem State.reset_entry (n : Fin 12) : State.reset.entry n = none := by
  simp [State.reset, State.entry]

@[simp] theorem State.reset_slot (k : Fin 4) : State.reset.slot k = none := by
  simp [State.reset, State.slot]

@[simp] theorem State.reset_stream (st : Fin 16) : State.reset.stream st = StreamRecord.reset st := by
  simp [State.reset, State.stream]

@[simp] theorem State.reset_tag (t : Fin 32) : State.reset.tag t = .free := by
  simp [State.reset, State.tag, DLink.reset]

@[simp] theorem State.reset_notice (k : Fin 6) : State.reset.notice k = NoticeSource.reset := by
  simp [State.reset, State.notice]

/-- Settles O4, block by block. -/
theorem powerOnValues : Obligations.PowerOnValues := by
  refine ⟨fun w => ?_, State.reset_entry, State.reset_slot, rfl, fun k => ?_, rfl, rfl, rfl, State.reset_stream, rfl, rfl,
    rfl, rfl, rfl, rfl, rfl, rfl, rfl, State.reset_tag, rfl, rfl, rfl, rfl, rfl, rfl, rfl, State.reset_notice⟩
  · rw [State.reset_line, State.reset_victim]
    exact ⟨rfl, rfl, rfl, rfl, rfl, rfl⟩
  · simp [State.reset, WindowTable.reset, WindowRecord.reset]

/-! ## The invariants at reset -/

theorem State.reset_marksAgree : State.reset.MarksAgree := by
  refine ⟨fun w => ?_, fun k sl hsl => ?_⟩
  · rw [State.reset_line]
    simp [LineRecord.MarksAgree, LineRecord.reset]
  · simp at hsl

theorem StreamRecord.reset_legal (st : Fin 16) : (StreamRecord.reset st).Legal where
  depthLow := show 1 ≤ (4 : BitVec 5).toNat by decide
  depthHigh := show (4 : BitVec 5).toNat ≤ 16 by decide
  distinct := List.nodup_nil
  few := Nat.zero_le _

theorem State.reset_streamsLegal : State.reset.StreamsLegal where
  legal st := by rw [State.reset_stream]; exact StreamRecord.reset_legal st
  zeroOpen := rfl
  zeroManage := rfl

theorem State.reset_queuedTotal : State.reset.queuedTotal = 0 := by
  rw [State.queuedTotal_eq]
  simp [StreamRecord.reset]

theorem State.reset_withinCapacities : State.reset.WithinCapacities where
  egress := Nat.zero_le _
  queue st := by rw [State.reset_stream]; exact Nat.zero_le _
  pool := by rw [State.reset_queuedTotal]; exact Nat.zero_le _
  depth st := by rw [State.reset_stream]; exact (StreamRecord.reset_legal st).depthHigh
  outstanding st := by rw [State.reset_stream]; exact Nat.zero_le _
  parked n e he := by simp at he
  active := Nat.zero_le _
  faults := Nat.zero_le _
  engine p hp := by cases hp

theorem WindowTable.reset_sorted : WindowTable.reset.Sorted :=
  ⟨List.Pairwise.nil, fun _ hr => by cases hr⟩

theorem State.reset_attemptsLegal : State.reset.AttemptsLegal where
  timeout := by decide
  retryLimit := by decide
  attempts n e he := by simp at he
  waiting n e why he := by simp at he

theorem State.reset_linesDistinct : State.reset.LinesDistinct := by
  intro m n a b _ ha
  simp at ha

/-- Settles O60: no entry, slot or action is in use after reset, and every list is empty. -/
theorem resetMeetsTheInvariants : Obligations.ResetMeetsTheInvariants :=
  ⟨State.reset_marksAgree, State.reset_withinCapacities, State.reset_streamsLegal, WindowTable.reset_sorted,
    State.reset_attemptsLegal, State.reset_linesDistinct, fun h => by cases h⟩

end Sys2Proof.Machine
end

section
/-! PROOFS. The invariants (chapters 1, 3, 4, 5, 7, 9): each is kept by the single writes that commands are made of (`ClosedRun`),
and so by every step. -/

namespace Sys2Proof.Machine

-- Proofs are elaborated one after another: the threads of proofs that wait for each other do not fit the memory of the check.
set_option Elab.async false

open Sys2Proof (Instr LineAddr)

/-! ## What CLEAR leaves (R147) -/

@[simp] theorem State.clear_line (s : State) (p : Progress) (w : WayRef) : (s.clear p).line w = LineRecord.reset :=
  State.reset_line w

@[simp] theorem State.clear_stream (s : State) (p : Progress) (st : Fin 16) :
    (s.clear p).stream st = s.clearedStream p st := by
  simp [State.clear, State.stream]

/-! ## Writes through every entry and every stream record -/

theorem State.entry_map {s t : State} {f : TrackerEntry → TrackerEntry}
    (ht : t.entries = s.entries.map (Option.map f)) (n : Fin 12) : t.entry n = (s.entry n).map f := by
  simp [State.entry, ht]

theorem State.stream_map {s t : State} {f : StreamRecord → StreamRecord} (ht : t.streams = s.streams.map f)
    (st : Fin 16) : t.stream st = f (s.stream st) := by
  simp [State.stream, ht]

/-! ## Marks, line states and slot masks (R3, R26, R69) -/

theorem LineRecord.marksAgree_reset : LineRecord.reset.MarksAgree := by
  simp [LineRecord.MarksAgree, LineRecord.reset]

/-- A state that reads the same lines and slots agrees where the other does. -/
theorem State.MarksAgree.congr {s t : State} (h : s.MarksAgree) (hl : ∀ w, t.line w = s.line w)
    (hs : ∀ k, t.slot k = s.slot k) : t.MarksAgree :=
  ⟨fun w => by rw [hl]; exact h.1 w, fun k sl hk => h.2 k sl (by rw [← hs]; exact hk)⟩

theorem State.MarksAgree.setLine {s : State} (h : s.MarksAgree) (w : WayRef) {r : LineRecord} (hr : r.MarksAgree) :
    (s.setLine w r).MarksAgree := by
  refine ⟨fun x => ?_, h.2⟩
  rw [State.line_setLine]
  split
  · exact hr
  · exact h.1 x

theorem State.MarksAgree.setSlot {s : State} (h : s.MarksAgree) (k : Fin 4) {e : Option EvictionSlot}
    (he : ∀ sl, e = some sl → sl.MaskAgrees) : (s.setSlot k e).MarksAgree := by
  refine ⟨h.1, fun j sl hj => ?_⟩
  rw [State.slot_setSlot] at hj
  split at hj
  · exact he sl hj
  · exact h.2 j sl hj

theorem State.MarksAgree.clear {s : State} (h : s.MarksAgree) (p : Progress) : (s.clear p).MarksAgree :=
  ⟨fun w => by rw [State.clear_line]; exact LineRecord.marksAgree_reset, h.2⟩

theorem marksAgree_closedRun : ClosedRun State.MarksAgree where
  line _ w _ h hr := h.setLine w (hr h)
  victim s c v h := h.congr (s.line_setVictim c v) fun _ => rfl
  entry _ _ _ h _ := h
  woken _ _ h _ := h
  slot _ k _ h he := h.setSlot k (he h)
  engine _ _ h _ := h
  tag _ _ _ h := h
  form _ _ h := h
  place _ _ h _ := h
  faults _ _ h _ := h
  notice _ _ _ h := h
  stream _ _ _ h _ := h
  lifted _ _ h _ := h
  arbiter _ _ h := h
  ulink _ _ h _ := h
  dlink _ _ h _ := h
  windows _ _ h _ _ := h
  control _ _ h := h
  notices _ _ h := h
  clear _ p h := h.clear p

/-- Settles O56: the single writes keep the agreement, so every step does. -/
theorem marksAgreeAfterEveryStep : Obligations.MarksAgreeAfterEveryStep := fun _ _ h hstep =>
  marksAgree_closedRun.step State.reset_marksAgree (fun _ _ _ h => h) h hstep

/-! ## Capacities (About This Manual 2.3) -/

/-- A state that holds the same streams, entries, queues and progress record is within its capacities where the other is. -/
theorem State.WithinCapacities.congr {s t : State} (h : s.WithinCapacities) (hu : t.ulink.egress = s.ulink.egress)
    (hst : t.streams = s.streams) (he : t.entries = s.entries) (hw : t.windows.active = s.windows.active)
    (hf : t.faults.entries = s.faults.entries) (hg : t.engine = s.engine) : t.WithinCapacities := by
  have stream (st : Fin 16) : t.stream st = s.stream st := by simp [State.stream, hst]
  have entry (n : Fin 12) : t.entry n = s.entry n := by simp [State.entry, he]
  exact {
    egress := by rw [hu]; exact h.egress
    queue := fun st => by rw [stream]; exact h.queue st
    pool := by unfold State.queuedTotal; simp only [stream]; exact h.pool
    depth := fun st => by rw [stream]; exact h.depth st
    outstanding := fun st => by rw [stream]; exact h.outstanding st
    parked := fun n e hn => h.parked n e (by rw [← entry]; exact hn)
    active := by rw [hw]; exact h.active
    faults := by rw [hf]; exact h.faults
    engine := fun p hp => h.engine p (by rw [← hg]; exact hp) }

theorem State.WithinCapacities.setEntry {s : State} (h : s.WithinCapacities) {n : Fin 12} {e : Option TrackerEntry}
    (he : ∀ x, e = some x → 1 ≤ x.parked.length ∧ x.parked.length ≤ 4) : (s.setEntry n e).WithinCapacities :=
  { h with
    parked := fun m x hm => by
      rw [State.entry_setEntry] at hm
      split at hm
      · exact he x hm
      · exact h.parked m x hm }

theorem State.WithinCapacities.mapEntries {s : State} (h : s.WithinCapacities) {f : TrackerEntry → TrackerEntry}
    (hf : ∀ e, (f e).parked = e.parked) :
    State.WithinCapacities { s with entries := s.entries.map (Option.map f) } :=
  { h with
    parked := fun n x hn => by
      rw [State.entry_map rfl] at hn
      obtain ⟨e, he, rfl⟩ := Option.map_eq_some_iff.1 hn
      rw [hf]
      exact h.parked n e he }

theorem State.WithinCapacities.setStream {s : State} (h : s.WithinCapacities) {st : Fin 16} {r : StreamRecord}
    (hr : StreamOk s st r) : (s.setStream st r).WithinCapacities := by
  obtain ⟨hq, hpool⟩ := hr.queue h
  obtain ⟨hd, ho⟩ := hr.outstanding h
  exact { h with
    pool := hpool
    queue := fun x => by
      rw [State.stream_setStream]
      split
      · exact hq
      · exact h.queue x
    depth := fun x => by
      rw [State.stream_setStream]
      split
      · exact hd
      · exact h.depth x
    outstanding := fun x => by
      rw [State.stream_setStream]
      split
      · exact ho
      · exact h.outstanding x }

/-- Stream records with queues as they were, and depths and outstanding tags in range, keep the capacities. -/
theorem State.WithinCapacities.streams {s t : State} (h : s.WithinCapacities)
    (hq : ∀ st, (t.stream st).queue = (s.stream st).queue) (hd : ∀ st, (t.stream st).depth.toNat ≤ 16)
    (ho : ∀ st, (t.stream st).outstanding.length ≤ 16) (he : t.entries = s.entries)
    (hu : t.ulink.egress = s.ulink.egress) (hw : t.windows.active.length ≤ 24)
    (hf : t.faults.entries.length ≤ 8) (hg : t.engine = s.engine) : t.WithinCapacities where
  egress := by rw [hu]; exact h.egress
  queue st := by rw [hq]; exact h.queue st
  pool := by unfold State.queuedTotal; simp only [hq]; exact h.pool
  depth := hd
  outstanding := ho
  parked n e hn := h.parked n e (by rw [← hn]; simp [State.entry, he])
  active := hw
  faults := hf
  engine p hp := h.engine p (by rw [← hg]; exact hp)

theorem State.WithinCapacities.lifted {s : State} (h : s.WithinCapacities) {f : StreamRecord → StreamRecord}
    (hf : ∀ r, f r = { r with blocked := (f r).blocked }) :
    State.WithinCapacities { s with streams := s.streams.map f } := by
  have read (st : Fin 16) := State.stream_map (s := s) (t := { s with streams := s.streams.map f }) rfl st
  exact h.streams (fun st => by rw [read, hf]) (fun st => by rw [read, hf]; exact h.depth st)
    (fun st => by rw [read, hf]; exact h.outstanding st) rfl rfl h.active h.faults rfl

theorem State.WithinCapacities.clear {s : State} (h : s.WithinCapacities) (p : Progress) :
    (s.clear p).WithinCapacities := by
  refine h.streams (fun st => by rw [State.clear_stream]; rfl)
    (fun st => by rw [State.clear_stream]; exact (StreamRecord.reset_legal st).depthHigh) (fun st => ?_) rfl rfl
    (Nat.zero_le _) (Nat.zero_le _) rfl
  rw [State.clear_stream]
  unfold State.clearedStream
  dsimp only
  split <;> simp

theorem State.WithinCapacities.place {s : State} (h : s.WithinCapacities) (f : EgressFrame) (hr : s.room = true) :
    (s.place f).WithinCapacities :=
  { h with
    egress := by
      have := s.room_iff.1 hr
      show (s.ulink.egress ++ [f]).length ≤ 64
      simp only [List.length_append, List.length_singleton]
      omega }

theorem withinCapacities_closedRun : ClosedRun State.WithinCapacities where
  line _ _ _ h _ := h.congr rfl rfl rfl rfl rfl rfl
  victim _ _ _ h := h.congr rfl rfl rfl rfl rfl rfl
  entry _ _ _ h he := h.setEntry fun x hx => (he x hx).parked h
  woken _ _ h hf := h.mapEntries fun e => (hf e).2.1
  slot _ _ _ h _ := h.congr rfl rfl rfl rfl rfl rfl
  engine _ _ h hp := { h with engine := hp h.engine }
  tag _ _ _ h := h.congr rfl rfl rfl rfl rfl rfl
  form _ _ h := h.congr rfl rfl rfl rfl rfl rfl
  place _ f h hr := h.place f hr
  faults _ _ h hf := { h with faults := hf h.faults }
  notice _ _ _ h := h.congr rfl rfl rfl rfl rfl rfl
  stream _ _ _ h hr := h.setStream hr
  lifted _ _ h hf := h.lifted hf
  arbiter _ _ h := h.congr rfl rfl rfl rfl rfl rfl
  ulink _ _ h hu := { h with egress := hu.trans h.egress }
  dlink _ _ h _ := h.congr rfl rfl rfl rfl rfl rfl
  windows _ _ h _ ha := { h with active := ha h.active }
  control _ _ h := h.congr rfl rfl rfl rfl rfl rfl
  notices _ _ h := h.congr rfl rfl rfl rfl rfl rfl
  clear _ p h := h.clear p

/-- Settles O57: the single writes keep the capacities, so every step does. -/
theorem capacitiesHoldAfterEveryStep : Obligations.CapacitiesHoldAfterEveryStep := fun _ _ h hstep =>
  withinCapacities_closedRun.step State.reset_withinCapacities (fun _ _ _ h => h.congr rfl rfl rfl rfl rfl rfl) h hstep

/-! ## Stream records (R100, R101, R113) -/

theorem State.StreamsLegal.setStream {s : State} (h : s.StreamsLegal) {st : Fin 16} {r : StreamRecord}
    (hr : StreamOk s st r) : (s.setStream st r).StreamsLegal := by
  obtain ⟨hlegal, hzero⟩ := hr.legal h
  refine ⟨fun x => ?_, ?_, ?_⟩ <;> rw [State.stream_setStream] <;> split
  · exact hlegal
  · exact h.legal x
  · rename_i h0
    exact (hzero h0.symm).1
  · exact h.zeroOpen
  · rename_i h0
    exact (hzero h0.symm).2
  · exact h.zeroManage

theorem State.StreamsLegal.lifted {s : State} (h : s.StreamsLegal) {f : StreamRecord → StreamRecord}
    (hf : ∀ r, f r = { r with blocked := (f r).blocked }) : State.StreamsLegal { s with streams := s.streams.map f } := by
  have read (st : Fin 16) := State.stream_map (s := s) (t := { s with streams := s.streams.map f }) rfl st
  refine ⟨fun st => ?_, ?_, ?_⟩ <;> rw [read, hf]
  · obtain ⟨hlow, hhigh, hdistinct, hfew⟩ := h.legal st
    exact ⟨hlow, hhigh, hdistinct, hfew⟩
  · exact h.zeroOpen
  · exact h.zeroManage

/-- A record after CLEAR is the power-on one with the running action's tag at most outstanding (R125). -/
theorem State.clearedStream_legal (s : State) (p : Progress) (st : Fin 16) : (s.clearedStream p st).Legal := by
  refine ⟨(StreamRecord.reset_legal st).depthLow, (StreamRecord.reset_legal st).depthHigh, ?_, ?_⟩ <;>
    unfold State.clearedStream <;> dsimp only <;> split <;> simp

theorem streamsLegal_closedRun : ClosedRun State.StreamsLegal where
  line _ _ _ h _ := ⟨h.legal, h.zeroOpen, h.zeroManage⟩
  victim _ _ _ h := ⟨h.legal, h.zeroOpen, h.zeroManage⟩
  entry _ _ _ h _ := ⟨h.legal, h.zeroOpen, h.zeroManage⟩
  woken _ _ h _ := ⟨h.legal, h.zeroOpen, h.zeroManage⟩
  slot _ _ _ h _ := ⟨h.legal, h.zeroOpen, h.zeroManage⟩
  engine _ _ h _ := ⟨h.legal, h.zeroOpen, h.zeroManage⟩
  tag _ _ _ h := ⟨h.legal, h.zeroOpen, h.zeroManage⟩
  form _ _ h := ⟨h.legal, h.zeroOpen, h.zeroManage⟩
  place _ _ h _ := ⟨h.legal, h.zeroOpen, h.zeroManage⟩
  faults _ _ h _ := ⟨h.legal, h.zeroOpen, h.zeroManage⟩
  notice _ _ _ h := ⟨h.legal, h.zeroOpen, h.zeroManage⟩
  stream _ _ _ h hr := h.setStream hr
  lifted _ _ h hf := h.lifted hf
  arbiter _ _ h := ⟨h.legal, h.zeroOpen, h.zeroManage⟩
  ulink _ _ h _ := ⟨h.legal, h.zeroOpen, h.zeroManage⟩
  dlink _ _ h _ := ⟨h.legal, h.zeroOpen, h.zeroManage⟩
  windows _ _ h _ _ := ⟨h.legal, h.zeroOpen, h.zeroManage⟩
  control _ _ h := ⟨h.legal, h.zeroOpen, h.zeroManage⟩
  notices _ _ h := ⟨h.legal, h.zeroOpen, h.zeroManage⟩
  clear s p _ := by
    refine ⟨fun st => ?_, ?_, ?_⟩ <;> rw [State.clear_stream]
    · exact s.clearedStream_legal p st
    · rfl
    · rfl

/-! ## The active copy (R82) -/

theorem sorted_closedRun : ClosedRun fun s => s.windows.Sorted where
  line _ _ _ h _ := h
  victim _ _ _ h := h
  entry _ _ _ h _ := h
  woken _ _ h _ := h
  slot _ _ _ h _ := h
  engine _ _ h _ := h
  tag _ _ _ h := h
  form _ _ h := h
  place _ _ h _ := h
  faults _ _ h _ := h
  notice _ _ _ h := h
  stream _ _ _ h _ := h
  lifted _ _ h _ := h
  arbiter _ _ h := h
  ulink _ _ h _ := h
  dlink _ _ h _ := h
  windows _ _ h hs _ := hs h
  control _ _ h := h
  notices _ _ h := h
  clear _ _ _ := WindowTable.reset_sorted

/-! ## Settings and attempts (R60, R159) -/

theorem State.AttemptsLegal.setEntry {s : State} (h : s.AttemptsLegal) {n : Fin 12} {e : Option TrackerEntry}
    (he : ∀ x, e = some x → x.AttemptsOk) : (s.setEntry n e).AttemptsLegal where
  timeout := h.timeout
  retryLimit := h.retryLimit
  attempts m x hm := by
    rw [State.entry_setEntry] at hm
    split at hm
    · exact (he x hm).1
    · exact h.attempts m x hm
  waiting m x why hm hx := by
    rw [State.entry_setEntry] at hm
    split at hm
    · exact (he x hm).2 why hx
    · exact h.waiting m x why hm hx

/-- A waking keeps the attempts, and makes no entry wait that did not. -/
theorem State.AttemptsLegal.mapEntries {s : State} (h : s.AttemptsLegal) {f : TrackerEntry → TrackerEntry}
    (hf : ∀ e, (f e).attempts = e.attempts ∧ ((f e).phase = e.phase ∨ (f e).phase = .ending)) :
    State.AttemptsLegal { s with entries := s.entries.map (Option.map f) } where
  timeout := h.timeout
  retryLimit := h.retryLimit
  attempts n x hn := by
    rw [State.entry_map rfl] at hn
    obtain ⟨e, he, rfl⟩ := Option.map_eq_some_iff.1 hn
    rw [(hf e).1]
    exact h.attempts n e he
  waiting n x why hn hx := by
    rw [State.entry_map rfl] at hn
    obtain ⟨e, he, rfl⟩ := Option.map_eq_some_iff.1 hn
    rw [(hf e).1]
    rcases (hf e).2 with hsame | hending
    · exact h.waiting n e why he (hsame.symm.trans hx)
    · rw [hending] at hx
      cases hx

theorem State.AttemptsLegal.congr {s t : State} (h : s.AttemptsLegal) (ht : t.dlink.timeout = s.dlink.timeout)
    (hr : t.dlink.retryLimit = s.dlink.retryLimit) (he : t.entries = s.entries) : t.AttemptsLegal := by
  have entry (n : Fin 12) : t.entry n = s.entry n := by simp [State.entry, he]
  exact ⟨by rw [ht]; exact h.timeout, by rw [hr]; exact h.retryLimit,
    fun n e hn => h.attempts n e (by rw [← entry]; exact hn),
    fun n e why hn => h.waiting n e why (by rw [← entry]; exact hn)⟩

theorem attemptsLegal_closedRun : ClosedRun State.AttemptsLegal where
  line _ _ _ h _ := h.congr rfl rfl rfl
  victim _ _ _ h := h.congr rfl rfl rfl
  entry _ _ _ h he := h.setEntry fun x hx => (he x hx).attempts h
  woken _ _ h hf := h.mapEntries fun e => (hf e).2.2
  slot _ _ _ h _ := h.congr rfl rfl rfl
  engine _ _ h _ := h.congr rfl rfl rfl
  tag _ _ _ h := h.congr rfl rfl rfl
  form _ _ h := h.congr rfl rfl rfl
  place _ _ h _ := h.congr rfl rfl rfl
  faults _ _ h _ := h.congr rfl rfl rfl
  notice _ _ _ h := h.congr rfl rfl rfl
  stream _ _ _ h _ := h.congr rfl rfl rfl
  lifted _ _ h _ := h.congr rfl rfl rfl
  arbiter _ _ h := h.congr rfl rfl rfl
  ulink _ _ h _ := h.congr rfl rfl rfl
  dlink _ _ h hd := ⟨(hd h).1, (hd h).2, h.attempts, h.waiting⟩
  windows _ _ h _ _ := h.congr rfl rfl rfl
  control _ _ h := h.congr rfl rfl rfl
  notices _ _ h := h.congr rfl rfl rfl
  clear _ _ h := ⟨State.reset_attemptsLegal.timeout, State.reset_attemptsLegal.retryLimit, h.attempts, h.waiting⟩

/-! ## Lines of tracker entries (R50) -/

theorem State.LinesDistinct.setEntry {s : State} (h : s.LinesDistinct) {n : Fin 12} {e : Option TrackerEntry}
    (he : ∀ x, e = some x → ∀ m a, m ≠ n → s.entry m = some a → a.line ≠ x.line) : (s.setEntry n e).LinesDistinct := by
  intro i j a b hij hi hj
  rw [State.entry_setEntry] at hi hj
  split at hi <;> split at hj
  · rename_i hi' hj'
    exact absurd (hi'.trans hj'.symm) hij
  · rename_i _ hj'
    exact (he a hi j b hj' hj).symm
  · rename_i hi' _
    exact he b hj i a hi' hi
  · exact h i j a b hij hi hj

theorem State.LinesDistinct.mapEntries {s : State} (h : s.LinesDistinct) {f : TrackerEntry → TrackerEntry}
    (hf : ∀ e, (f e).line = e.line) : State.LinesDistinct { s with entries := s.entries.map (Option.map f) } := by
  intro i j a b hij hi hj
  rw [State.entry_map rfl] at hi hj
  obtain ⟨x, hx, rfl⟩ := Option.map_eq_some_iff.1 hi
  obtain ⟨y, hy, rfl⟩ := Option.map_eq_some_iff.1 hj
  rw [hf, hf]
  exact h i j x y hij hx hy

theorem linesDistinct_closedRun : ClosedRun State.LinesDistinct where
  line _ _ _ h _ := h
  victim _ _ _ h := h
  entry _ _ _ h he := h.setEntry fun x hx => (he x hx).line h
  woken _ _ h hf := h.mapEntries fun e => (hf e).1
  slot _ _ _ h _ := h
  engine _ _ h _ := h
  tag _ _ _ h := h
  form _ _ h := h
  place _ _ h _ := h
  faults _ _ h _ := h
  notice _ _ _ h := h
  stream _ _ _ h _ := h
  lifted _ _ h _ := h
  arbiter _ _ h := h
  ulink _ _ h _ := h
  dlink _ _ h _ := h
  windows _ _ h _ _ := h
  control _ _ h := h
  notices _ _ h := h
  clear _ _ h := h

/-- Settles O58: each of the four is kept by the single writes, so every step keeps it. -/
theorem recordsStayLegal : Obligations.RecordsStayLegal := fun _ _ hstep =>
  ⟨fun h => streamsLegal_closedRun.step State.reset_streamsLegal
      (fun _ _ _ h => ⟨h.legal, h.zeroOpen, h.zeroManage⟩) h hstep,
    fun h => sorted_closedRun.step WindowTable.reset_sorted (fun _ _ _ h => h) h hstep,
    fun h => attemptsLegal_closedRun.step State.reset_attemptsLegal (fun _ _ _ h => h.congr rfl rfl rfl) h hstep,
    fun h => linesDistinct_closedRun.step State.reset_linesDistinct (fun _ _ _ h => h) h hstep⟩

end Sys2Proof.Machine
end

section
/-! PROOFS. The machine as a whole, and the RESET_N pin (chapter 12; R194, R195): every command answers a next state, none but the
two about the pin moves the pin, and none touches the queue of commands. -/

namespace Sys2Proof.Machine

-- Proofs are elaborated one after another: the threads of proofs that wait for each other do not fit the memory of the check.
set_option Elab.async false

open Sys2Proof (Instr)

/-- Every command has a meaning in every state. -/
theorem exec_answers_next (c : Instr) (s : State) : ∃ t, exec c s = .next t := by
  cases c <;> exact ⟨_, rfl⟩

/-- While the pin is low a command leaves the state as it is, but for the two about the pin (R194). -/
theorem exec_of_low {c : Instr} {s : State} (h : s.resetN = false) (hl : c ≠ .resetNLow) (hh : c ≠ .resetNHigh) :
    exec c s = .next s := by
  have hnot : ¬ s.resetN = true := by simp [h]
  cases c with
  | resetNLow => exact absurd rfl hl
  | resetNHigh => exact absurd rfl hh
  | _ => exact congrArg Host.Outcome.next (if_neg hnot)

/-- The writes that commands are made of leave the pin and the queue of commands alone. -/
theorem pinAndQueue_closedRun (b : Bool) (l : List Instr) : ClosedRun fun s => s.resetN = b ∧ s.pending = l where
  line _ _ _ h _ := h
  victim _ _ _ h := h
  entry _ _ _ h _ := h
  woken _ _ h _ := h
  slot _ _ _ h _ := h
  engine _ _ h _ := h
  tag _ _ _ h := h
  form _ _ h := h
  place _ _ h _ := h
  faults _ _ h _ := h
  notice _ _ _ h := h
  stream _ _ _ h _ := h
  lifted _ _ h _ := h
  arbiter _ _ h := h
  ulink _ _ h _ := h
  dlink _ _ h _ := h
  windows _ _ h _ _ := h
  control _ _ h := h
  notices _ _ h := h
  clear _ _ h := h

theorem exec_keeps_pinAndQueue {c : Instr} {s t : State} (ht : exec c s = .next t) (hl : c ≠ .resetNLow)
    (hh : c ≠ .resetNHigh) : t.resetN = s.resetN ∧ t.pending = s.pending :=
  (pinAndQueue_closedRun s.resetN s.pending).exec_running ⟨rfl, rfl⟩ hl hh ht

/-- Settles O1. -/
theorem stepRunsFrontCommand : Obligations.StepRunsFrontCommand := by
  refine ⟨fun _ _ _ => rfl, fun s hs => ?_⟩
  unfold step
  rw [hs]

/-- Settles O2: the two commands about the pin keep the queue by their definition, the others by the writes they are made of. -/
theorem everyCommandAnswersNext : Obligations.EveryCommandAnswersNext := by
  intro c s
  by_cases hl : c = .resetNLow
  · subst hl
    exact ⟨_, rfl, rfl⟩
  by_cases hh : c = .resetNHigh
  · subst hh
    exact ⟨_, rfl, rfl⟩
  obtain ⟨t, ht⟩ := exec_answers_next c s
  exact ⟨t, ht, (exec_keeps_pinAndQueue ht hl hh).2⟩

/-- Settles O3. -/
theorem resetPinRows : Obligations.ResetPinRows := fun _ =>
  ⟨rfl, rfl, fun _ h hl hh => exec_of_low h hl hh⟩

/-- The power-on values hold whatever the queue of commands is. -/
theorem State.LowHolds.withPending {s : State} (h : s.LowHolds) (l : List Instr) :
    State.LowHolds { s with pending := l } := by
  intro hlow
  show ({ s with pending := l } : State) = { State.reset with resetN := false, pending := l }
  rw [h hlow]

theorem exec_keeps_lowHolds {c : Instr} {s t : State} (h : s.LowHolds) (ht : exec c s = .next t) : t.LowHolds := by
  by_cases hl : c = .resetNLow
  · subst hl
    cases ht
    exact fun _ => rfl
  by_cases hh : c = .resetNHigh
  · subst hh
    cases ht
    exact fun hlow => by cases hlow
  intro hlow
  have hs : s.resetN = false := (exec_keeps_pinAndQueue ht hl hh).1.symm.trans hlow
  rw [exec_of_low hs hl hh] at ht
  cases ht
  exact h hs

/-- Settles O59: a command other than the two about the pin finds the pin as it leaves it, and leaves the state alone while it is
low. -/
theorem resetValuesHoldWhileLow : Obligations.ResetValuesHoldWhileLow := by
  intro s t h hstep
  unfold step at hstep
  split at hstep
  · exact exec_keeps_lowHolds (h.withPending _) hstep
  · cases hstep
    exact h

end Sys2Proof.Machine
end

section
/-! PROOFS. The ports and the queues between them (chapters 5, 7, 9, 12): what the receivers take in and what is taken from them, the
arrival of request frames, bad frames, the pause that a full egress queue brings, the sending of the oldest frame, the fault
record and the NOTICEs. -/

namespace Sys2Proof.Machine

-- Proofs are elaborated one after another: the threads of proofs that wait for each other do not fit the memory of the check.
set_option Elab.async false

open Sys2Proof (Word Frame Arrival Instr)

/-! ## The receivers (R121, R122, R150, R195) -/

theorem ULink.receive_unlocked {u : ULink} (h : u.lock = false) (a : Arrival) : u.receive a = u := by
  simp [ULink.receive, h]

theorem ULink.receive_locked {u : ULink} (h : u.lock = true) (f : Frame) :
    u.receive (.whole f) = { u with rx := u.rx ++ [f], framing := false } ∧ u.receive .start = { u with framing := true } ∧
      (u.framing = true → u.receive (.finish f) = { u with rx := u.rx ++ [f], framing := false }) := by
  simp +contextual [ULink.receive, h]

/-- A frame whose start was not received is discarded, and where nothing comes in nothing changes. -/
theorem ULink.receive_nothing (u : ULink) (f : Frame) :
    (u.framing = false → u.receive (.finish f) = u) ∧ u.receive .waiting = u := by
  simp +contextual [ULink.receive]

theorem DLink.receive_noSignal {d : DLink} (h : d.signal = false) (a : Arrival) : d.receive a = d := by
  simp [DLink.receive, h]

theorem DLink.receive_signal {d : DLink} (h : d.signal = true) (f : Frame) :
    d.receive (.whole f) = { d with rx := d.rx ++ [f], framing := false } ∧ d.receive .start = { d with framing := true } ∧
      (d.framing = true → d.receive (.finish f) = { d with rx := d.rx ++ [f], framing := false }) := by
  simp +contextual [DLink.receive, h]

theorem DLink.receive_nothing (d : DLink) (f : Frame) :
    (d.framing = false → d.receive (.finish f) = d) ∧ d.receive .waiting = d := by
  simp +contextual [DLink.receive]

/-- Settles O5: the two commands about lock, and the forms of an arrival at either receiver. -/
theorem lockGatesReception : Obligations.LockGatesReception := by
  refine ⟨fun s hrun => ⟨?_, fun hlock => ?_, fun hlock => ?_⟩, fun u a f => ?_, fun d a f => ?_⟩
  · show execULinkLockLost s = _
    exact whileRunning_high hrun
  · show execULinkLockGained s = _
    exact (whileRunning_high hrun).trans (congrArg _ (if_pos hlock))
  · show execULinkLockGained s = _
    exact (whileRunning_high hrun).trans (congrArg _ (if_neg (by simp [hlock])))
  · exact ⟨fun h => ULink.receive_unlocked h a, fun h => (ULink.receive_locked h f).1,
      fun h => (ULink.receive_locked h f).2.1, fun h => (ULink.receive_locked h f).2.2, u.receive_nothing f⟩
  · exact ⟨fun h => DLink.receive_noSignal h a, fun h => (DLink.receive_signal h f).1,
      fun h => (DLink.receive_signal h f).2.1, fun h => (DLink.receive_signal h f).2.2, d.receive_nothing f⟩

/-! ## The oldest frame of a receiver -/

theorem State.received_room (s : State) (a : Arrival) : (s.setULink (s.ulink.receive a)).room = s.room := by
  unfold State.room
  rw [State.setULink_ulink, ULink.receive_egress]

theorem State.received_ulinkFront {s : State} (hlock : s.ulink.lock = true) (hroom : s.room = true) (a : Arrival) :
    (s.setULink (s.ulink.receive a)).ulinkFront = (s.ulink.receive a).rx.head? := by
  simp [State.ulinkFront, State.received_room, hlock, hroom]

theorem State.received_popULink (s : State) {a : Arrival} {f : Frame} {rest : List Frame}
    (hrx : (s.ulink.receive a).rx = f :: rest) :
    (s.setULink (s.ulink.receive a)).popULink = { s with ulink := { s.ulink.receive a with rx := rest } } := by
  simp [State.popULink, State.setULink, hrx]

theorem State.received_dlinkFront {s : State} (hstate : s.dlink.state ≠ .down) (hroom : s.room = true) (a : Arrival) :
    (s.setDLink (s.dlink.receive a)).dlinkFront = (s.dlink.receive a).rx.head? := by
  simp [State.dlinkFront, hstate, hroom]

theorem State.received_popDLink (s : State) {a : Arrival} {f : Frame} {rest : List Frame}
    (hrx : (s.dlink.receive a).rx = f :: rest) :
    (s.setDLink (s.dlink.receive a)).popDLink = s.packetTaken a rest := by
  simp [State.popDLink, State.packetTaken, State.setDLink, hrx]

/-! ## Request frames (R103, R104, R123) -/

/-- What a command does with a request frame that is the oldest in the receiver. -/
theorem exec_requestFrameArrival {s : State} {a : Arrival} {f : Frame} {rest : List Frame} {q : QueuedFrame}
    (hrun : s.resetN = true) (hlock : s.ulink.lock = true) (hroom : s.room = true)
    (hrx : (s.ulink.receive a).rx = f :: rest) (hq : requestFrame f = some q) :
    exec (.requestFrameArrival a) s =
      .next (State.arrive { s with ulink := { s.ulink.receive a with rx := rest } } q) := by
  have hfront := State.received_ulinkFront hlock hroom a
  have hpop := s.received_popULink hrx
  rw [hrx] at hfront
  show execRequestFrameArrival a s = _
  refine (whileRunning_high hrun).trans (congrArg _ ?_)
  simp [hfront, hq, hpop]

/-- Settles O6, by the three branches of an arrival. -/
theorem requestFrameArrives : Obligations.RequestFrameArrives := by
  intro s a f rest q hrun hlock hroom hrx hq
  dsimp only
  rw [exec_requestFrameArrival hrun hlock hroom hrx hq]
  refine ⟨fun hreset => ?_, fun hreset hqueue hpool => ?_, fun hreset hfull => ?_⟩
  · exact congrArg _ (if_pos hreset)
  · exact congrArg _ ((if_neg (ne_true_of_eq_false hreset)).trans (if_pos ⟨hqueue, hpool⟩))
  · refine congrArg _ ((if_neg (ne_true_of_eq_false hreset)).trans (if_neg ?_))
    rintro ⟨hqueue, hpool⟩
    rcases hfull with hfull | hfull
    · exact absurd hqueue (Nat.not_lt.2 hfull)
    · exact absurd hpool (Nat.not_lt.2 hfull)

/-! ## Bad frames (R105, R160) -/

theorem satInc_sixteen (c : BitVec 16) : satInc c = if c = 65535 then 65535 else c + 1 := by
  unfold satInc
  rw [show BitVec.allOnes 16 = 65535 from rfl]
  split
  · assumption
  · rfl

theorem satInc_eight (c : BitVec 8) : satInc c = if c = 255 then 255 else c + 1 := by
  unfold satInc
  rw [show BitVec.allOnes 8 = 255 from rfl]
  split
  · assumption
  · rfl

/-- Settles O7: the oldest frame leaves its receiver and the counter of its link is raised. -/
theorem badFramesAreCounted : Obligations.BadFramesAreCounted := by
  intro s a f rest hrun hroom
  refine ⟨fun hlock hrx hbad => ?_, fun hstate hrx hbad => ?_⟩
  · have hfront := State.received_ulinkFront hlock hroom a
    have hpop := s.received_popULink hrx
    rw [hrx] at hfront
    show execULinkBadFrame a s = _
    refine (whileRunning_high hrun).trans (congrArg _ ?_)
    dsimp only
    rw [hfront]
    dsimp only [List.head?_cons]
    rw [if_pos (by simp [isBadULinkFrame, hbad]), hpop, satInc_sixteen]
    simp only [ULink.receive_badFrames, State.setULink]
  · have hfront := State.received_dlinkFront hstate hroom a
    have hpop := s.received_popDLink hrx
    rw [hrx] at hfront
    show execDLinkBadFrame a s = _
    refine (whileRunning_high hrun).trans (congrArg _ ?_)
    dsimp only
    rw [hfront]
    dsimp only [List.head?_cons]
    rw [if_pos (by simp [hbad]), hpop, satInc_sixteen]
    simp only [State.packetTaken, DLink.receive_badFrames, State.setDLink]

/-! ## Rows about a head request (R107, R109) -/

/-- A row about a head request does something with the selected head of that row only, and refuses one that fails a check. -/
theorem exec_headRow {s : State} (hrun : s.resetN = true) (row : HeadRow) :
    ∃ f : Fin 16 → QueuedFrame → State → State, exec row.command s = .next (s.admitting row f) ∧
      ∀ st q x, s.commonCheck st q = some x → f st q s = s.refuse st q x := by
  cases row <;> dsimp only [HeadRow.command, exec]
  case read => exact ⟨_, whileRunning_high hrun, fun st q x hx => by simp [State.admitAccess, hx]⟩
  case write => exact ⟨_, whileRunning_high hrun, fun st q x hx => by simp [State.admitAccess, hx]⟩
  case malformedRefusal => exact ⟨_, whileRunning_high hrun, fun st q x hx => by simp [State.refuseMalformed, hx]⟩
  all_goals exact ⟨_, whileRunning_high hrun, fun st q x hx => by simp [hx]⟩

/-! ## A full egress queue (R109, R121, R122) -/

theorem State.room_eq_false_iff (s : State) : s.room = false ↔ 64 ≤ s.ulink.egress.length := by
  rw [← Bool.not_eq_true, State.room_iff, Nat.not_lt]

theorem State.selected_of_full {s : State} (h : s.room = false) : s.selected = none := by simp [State.selected, h]

theorem State.selectedForRefusal_of_full {s : State} (h : s.room = false) : s.selectedForRefusal = none := by
  simp [State.selectedForRefusal, h]

theorem State.received_ulinkFront_of_full {s : State} (h : s.room = false) (a : Arrival) :
    (s.setULink (s.ulink.receive a)).ulinkFront = none := by
  simp [State.ulinkFront, State.received_room, h]

theorem State.received_dlinkFront_of_full {s : State} (h : s.room = false) (a : Arrival) :
    (s.setDLink (s.dlink.receive a)).dlinkFront = none := by
  simp [State.dlinkFront, h]

theorem State.takePacket_of_full {s : State} (h : s.room = false) (a : Arrival) (f : HomePacket → Option (State → State)) :
    s.takePacket a f = { s with dlink := s.dlink.receive a } := by
  simp only [State.takePacket, State.received_dlinkFront_of_full h, Option.bind_none]
  rfl

/-- A row about a packet of the home is `takePacket` with the effect of that packet's kind. -/
theorem exec_homePacket {s : State} (hrun : s.resetN = true) (p : HomePacket) (a : Arrival) :
    ∃ f, exec (p.command a) s = .next (s.takePacket a f) := by
  cases p <;> dsimp only [HomePacket.command, exec] <;> exact ⟨_, whileRunning_high hrun⟩

theorem State.placeNotice_of_full {s : State} (h : s.room = false) (k : Fin 6) : s.placeNotice k = s := by
  simp [State.placeNotice, h]

/-- Settles O8: what a producer looks for before it places a frame is a free place. -/
theorem fullEgressQueuePausesProducers : Obligations.FullEgressQueuePausesProducers := by
  intro s hrun hlength
  have hfull := s.room_eq_false_iff.2 hlength
  refine ⟨fun a => ?_, fun a => ?_, fun p a => ?_, fun a => ?_, fun row => ?_, ?_, fun n => ?_, ?_, ?_⟩
  · show execRequestFrameArrival a s = _
    refine (whileRunning_high hrun).trans (congrArg _ ?_)
    simp only [State.received_ulinkFront_of_full hfull, Option.bind_none]
    rfl
  · show execULinkBadFrame a s = _
    refine (whileRunning_high hrun).trans (congrArg _ ?_)
    simp only [State.received_ulinkFront_of_full hfull]
    rfl
  · obtain ⟨f, hf⟩ := exec_homePacket hrun p a
    rw [hf, State.takePacket_of_full hfull]
  · show execDLinkBadFrame a s = _
    refine (whileRunning_high hrun).trans (congrArg _ ?_)
    simp only [State.received_dlinkFront_of_full hfull]
    rfl
  · obtain ⟨f, hf, _⟩ := exec_headRow hrun row
    rw [hf, State.admitting, State.selected_of_full hfull]
  · show execResettingRefusal s = _
    refine (whileRunning_high hrun).trans (congrArg _ ?_)
    rw [State.selectedForRefusal_of_full hfull]
  · show execServeParkedRequest n s = _
    refine (whileRunning_high hrun).trans (congrArg _ ?_)
    split
    · split <;> simp [hfull]
    · rfl
  · show execPlaceActionCompletion s = _
    refine (whileRunning_high hrun).trans (congrArg _ ?_)
    split <;> simp [hfull]
  · show execPlaceNotice s = _
    refine (whileRunning_high hrun).trans (congrArg _ ?_)
    split
    · exact State.placeNotice_of_full hfull _
    · rfl

/-! ## Sending (R23, R120) -/

/-- Settles O9. -/
theorem oldestIsSentFirst : Obligations.OldestIsSentFirst := by
  refine ⟨fun s f rest hrun hlock hegress => ?_, fun s p rest hrun hstate htx => ?_⟩
  · show execEgressFrameSent s = _
    refine (whileRunning_high hrun).trans (congrArg _ ?_)
    simp only [hlock, hegress]
    rfl
  · show execDLinkPacketSent s = _
    refine (whileRunning_high hrun).trans (congrArg _ ?_)
    simp only [htx, hstate, if_true]
    rfl

/-! ## Notices and the fault record (chapter 9) -/

theorem State.setNotice_self (s : State) (k : Fin 6) : s.setNotice k (s.notice k) = s := by
  simp [State.setNotice, State.notice]

/-- Settles O16. -/
theorem faultEntriesAreLogged : Obligations.FaultEntriesAreLogged := by
  refine ⟨fun s f hfew => if_pos hfew, fun s f hfull => ?_, fun s k => ⟨fun hset => ?_, fun hclear => ?_⟩⟩
  · refine (if_neg (Nat.not_lt.2 hfull)).trans ?_
    rw [satInc_eight]
    rfl
  · have hraised : (s.notice k).raised = s.notice k := if_pos hset
    rw [State.raise, hraised, State.setNotice_self]
  · simp [State.raise, NoticeSource.raised, hclear]

/-- A NOTICE is placed with the source's number, sequence number and target as they stand (R185, R188). -/
theorem State.placeNotice_eq (s : State) (k : Fin 6) : s.placeNotice k =
    if (s.notice k).mark = .pending ∧ s.ulink.egress.length < 64 then
      { s with
        ulink := { s.ulink with egress := s.ulink.egress ++ [.notice (s.notice k).target k (s.notice k).sequence] }
        notices := s.notices.set k { s.notice k with mark := .sent, sequence := (s.notice k).sequence + 1 } }
    else s := by
  simp only [State.placeNotice, State.room_iff]
  rfl

theorem becameDue_iff (before after : State) :
    becameDue before after = true ↔ ∃ k, (after.notice k).mark = .pending ∧ (before.notice k).mark ≠ .pending := by
  simp only [becameDue, List.any_eq_true, List.mem_finRange, true_and, Bool.and_eq_true, beq_iff_eq, bne_iff_ne]

theorem State.placeNotices_eq (s : State) :
    s.placeNotices = (((((s.placeNotice 0).placeNotice 1).placeNotice 2).placeNotice 3).placeNotice 4).placeNotice 5 := by
  have hall : List.finRange 6 = [0, 1, 2, 3, 4, 5] := by decide
  simp only [State.placeNotices, hall, List.foldl_cons, List.foldl_nil]

theorem announce_of_not_due {before after : State}
    (h : ∀ k, (after.notice k).mark = .pending → (before.notice k).mark = .pending) : announce before after = after := by
  have hnot : ¬ becameDue before after = true := fun hdue => by
    obtain ⟨k, hpending, hbefore⟩ := (becameDue_iff before after).1 hdue
    exact hbefore (h k hpending)
  rw [announce, if_neg hnot]

theorem announce_of_due {before after : State}
    (h : ∃ k, (after.notice k).mark = .pending ∧ (before.notice k).mark ≠ .pending) :
    announce before after = after.placeNotices := by
  rw [announce, if_pos ((becameDue_iff before after).2 h)]

/-- Settles O17. -/
theorem dueNoticesAreAnnounced : Obligations.DueNoticesAreAnnounced := by
  refine ⟨State.placeNotice_eq, fun before after => ⟨announce_of_not_due, fun h => ?_⟩⟩
  rw [← State.placeNotices_eq]
  exact announce_of_due h

/-- Settles O18, by the search for the lowest PENDING source. -/
theorem lowestPendingNoticeIsPlaced : Obligations.LowestPendingNoticeIsPlaced := by
  intro s k hrun hroom hpending hlowest
  have hfound : s.pendingNotice = some k :=
    (find_finRange_iff _ k).2 ⟨by simpa using hpending, fun j hj => by simpa using hlowest j hj⟩
  show execPlaceNotice s = _
  refine (whileRunning_high hrun).trans (congrArg _ ?_)
  simp only [hfound]
  rw [State.placeNotice_eq, if_pos ⟨hpending, hroom⟩]

/-! ## The arbiter (R107, R109, R123) -/

/-- A search over the numbers below `n` answers with the lowest that gives an answer. -/
theorem findSome_finRange_iff {α : Type} {n : Nat} (f : Fin n → Option α) (b : α) :
    (List.finRange n).findSome? f = some b ↔ ∃ k, f k = some b ∧ ∀ j < k, f j = none := by
  have hfind : (List.finRange n).findSome? f = ((List.finRange n).find? fun k => (f k).isSome).bind f := by
    induction List.finRange n with
    | nil => rfl
    | cons k rest ih =>
      cases hk : f k with
      | none => simp [hk, ih]
      | some x => simp [hk]
  rw [hfind, Option.bind_eq_some_iff]
  refine exists_congr fun k => ?_
  rw [find_finRange_iff]
  constructor
  · rintro ⟨⟨_, hlow⟩, hk⟩
    exact ⟨hk, fun j hj => by simpa using hlow j hj⟩
  · rintro ⟨hk, hlow⟩
    exact ⟨⟨by simp [hk], fun j hj => by simp [hlow j hj]⟩, hk⟩

/-- The first stream from the round-robin pointer upward that has a head and whose record meets the condition (R109). -/
theorem State.firstHead_iff (s : State) (ok : StreamRecord → Bool) (st : Fin 16) (q : QueuedFrame) :
    s.firstHead ok = some (st, q) ↔ ∃ i : Fin 16, st = s.arbiter + i ∧ (s.stream st).queue.head? = some q ∧
      ok (s.stream st) = true ∧ ∀ j < i, (s.stream (s.arbiter + j)).queue = [] ∨ ok (s.stream (s.arbiter + j)) = false := by
  unfold State.firstHead State.searchOrder
  rw [List.findSome?_map, findSome_finRange_iff]
  refine exists_congr fun i => ?_
  dsimp only [Function.comp_apply]
  constructor
  · rintro ⟨hfound, hlow⟩
    split at hfound
    · rename_i x rest hqueue
      obtain ⟨hok, hx⟩ := Option.ite_none_right_eq_some.1 hfound
      cases hx
      refine ⟨rfl, by rw [hqueue]; rfl, hok, fun j hj => ?_⟩
      have hskip := hlow j hj
      split at hskip
      · simp only [ite_eq_right_iff, reduceCtorEq, imp_false, Bool.not_eq_true] at hskip
        exact Or.inr hskip
      · rename_i hempty
        exact Or.inl hempty
    · cases hfound
  · rintro ⟨rfl, hhead, hok, hlow⟩
    obtain ⟨rest, hqueue⟩ := List.head?_eq_some_iff.1 hhead
    refine ⟨by rw [hqueue]; exact if_pos hok, fun j hj => ?_⟩
    rcases hlow j hj with hempty | hnot
    · rw [hempty]
    · split
      · exact if_neg (ne_true_of_eq_false hnot)
      · rfl

theorem StreamRecord.eligible_iff (r : StreamRecord) : r.eligible = true ↔
    r.outstanding.length < r.depth.toNat ∧ (r.policy = .bypassOrdered → r.outstanding = []) ∧ r.blocked = .clear := by
  simp [StreamRecord.eligible, and_assoc, imp_iff_not_or]

/-- Settles O12, by the search from the pointer upward. -/
theorem arbiterSelectsFirstEligible : Obligations.ArbiterSelectsFirstEligible := by
  intro s st q
  dsimp only
  constructor
  · unfold State.selected
    simp only [State.room_iff, Option.ite_none_right_eq_some, State.firstHead_iff, ← Bool.not_eq_true, StreamRecord.eligible_iff,
      and_assoc]
  · unfold State.selectedForRefusal
    simp only [State.room_iff, Option.ite_none_right_eq_some, State.firstHead_iff, and_assoc, Bool.true_eq_false, or_false,
      true_and]

/-- Settles O26. -/
theorem resettingRefusalAnswersQueuedHeads : Obligations.ResettingRefusalAnswersQueuedHeads := by
  intro s st q hrun hselected
  show execResettingRefusal s = _
  refine (whileRunning_high hrun).trans (congrArg _ ?_)
  simp only [hselected]
  rfl

end Sys2Proof.Machine
end

section
/-! PROOFS. Words and their fields (chapter 10): a word that is a sum of values put at their places reads back, field by field, as
those values, and as zero where no value was put. -/

namespace Sys2Proof.Machine

-- Proofs are elaborated one after another: the threads of proofs that wait for each other do not fit the memory of the check.
set_option Elab.async false

open Sys2Proof (Word LineAddr ByteAddr LineData)

/-! ## A word as a list of fields -/

/-- A field of a word: its lowest bit, how many bits it has, and its value. -/
structure FieldAt where
  lo : Nat
  width : Nat
  value : Nat

/-- The word of a list of fields: the sum of their values at their places. -/
def layout (l : List FieldAt) : Word := (l.map fun f => put f.lo f.value).sum

/-- The fields stand in ascending order from bit `base` up to bit `top`, none reaching into the next, and each value fits its
field. -/
@[simp] def FieldsFit : Nat → Nat → List FieldAt → Prop
  | base, top, [] => base ≤ top
  | base, top, f :: rest => base ≤ f.lo ∧ f.value < 2 ^ f.width ∧ FieldsFit (f.lo + f.width) top rest

/-- Bits `a + m - 1` to `a` are one of the fields, or meet none. -/
@[simp] def asksField : List FieldAt → Nat → Nat → Bool
  | [], _, _ => true
  | f :: rest, a, m =>
    if f.lo + f.width ≤ a then asksField rest a m else (f.lo == a && f.width == m) || decide (a + m ≤ f.lo)

/-- The value of the field at bits `a + m - 1` to `a`, 0 where no field stands. -/
@[simp] def fieldValue : List FieldAt → Nat → Nat → Nat
  | [], _, _ => 0
  | f :: rest, a, m =>
    if f.lo + f.width ≤ a then fieldValue rest a m else if f.lo = a ∧ f.width = m then f.value else 0

/-- The sum of a list of fields as a number. -/
def fieldSum (l : List FieldAt) : Nat := (l.map fun f => f.value * 2 ^ f.lo).sum

theorem layout_toNat (l : List FieldAt) : (layout l).toNat = fieldSum l % 2 ^ 64 := by
  induction l with
  | nil => rfl
  | cons f rest ih =>
    have hlayout : layout (f :: rest) = put f.lo f.value + layout rest := rfl
    have hsum : fieldSum (f :: rest) = f.value * 2 ^ f.lo + fieldSum rest := rfl
    rw [hlayout, BitVec.toNat_add, ih, put, BitVec.toNat_ofNat, hsum, ← Nat.add_mod]

theorem FieldsFit.dvd {top : Nat} {l : List FieldAt} : ∀ {base : Nat}, FieldsFit base top l → 2 ^ base ∣ fieldSum l := by
  induction l with
  | nil => exact fun _ => Dvd.intro 0 rfl
  | cons f rest ih =>
    rintro base ⟨hlo, _, hrest⟩
    have hbase : 2 ^ base ∣ 2 ^ f.lo := pow_dvd_pow 2 hlo
    have hnext : 2 ^ base ∣ 2 ^ (f.lo + f.width) := pow_dvd_pow 2 (by omega)
    exact Dvd.dvd.add (Dvd.dvd.mul_left hbase _) (hnext.trans (ih hrest))

theorem FieldsFit.le {top : Nat} {l : List FieldAt} : ∀ {base : Nat}, FieldsFit base top l → base ≤ top := by
  induction l with
  | nil => exact fun h => h
  | cons f rest ih =>
    rintro base ⟨hlo, _, hrest⟩
    exact (hlo.trans (Nat.le_add_right _ _)).trans (ih hrest)

/-- A multiple of `2 ^ a` below `2 ^ b` leaves room for a number below `2 ^ a`. -/
theorem add_multiple_lt {x y a b : Nat} (hx : x < 2 ^ a) (hy : 2 ^ a ∣ y) (hb : y < 2 ^ b) (hab : a ≤ b) :
    x + y < 2 ^ b := by
  obtain ⟨c, rfl⟩ := hy
  obtain ⟨d, rfl⟩ := Nat.exists_eq_add_of_le hab
  rw [pow_add] at hb ⊢
  have hc : c + 1 ≤ 2 ^ d := lt_of_mul_lt_mul_left hb (Nat.zero_le _)
  calc x + 2 ^ a * c < 2 ^ a + 2 ^ a * c := Nat.add_lt_add_right hx _
    _ = 2 ^ a * (c + 1) := by ring
    _ ≤ 2 ^ a * 2 ^ d := Nat.mul_le_mul_left _ hc

theorem FieldsFit.lt {top : Nat} {l : List FieldAt} : ∀ {base : Nat}, FieldsFit base top l → fieldSum l < 2 ^ top := by
  induction l with
  | nil => intro _ _; exact Nat.two_pow_pos top
  | cons f rest ih =>
    rintro base ⟨_, hvalue, hrest⟩
    have hsmall : f.value * 2 ^ f.lo < 2 ^ (f.lo + f.width) := by
      rw [pow_add, mul_comm]
      exact Nat.mul_lt_mul_of_pos_left hvalue (by positivity)
    exact add_multiple_lt hsmall hrest.dvd (ih hrest) hrest.le

theorem FieldsFit.append {mid top : Nat} {l₁ l₂ : List FieldAt} (h₂ : FieldsFit mid top l₂) :
    ∀ {base : Nat}, FieldsFit base mid l₁ → FieldsFit base top (l₁ ++ l₂) := by
  induction l₁ with
  | nil =>
    intro base h
    cases l₂ with
    | nil => exact le_trans (h : base ≤ mid) h₂
    | cons f rest => exact ⟨le_trans (h : base ≤ mid) h₂.1, h₂.2⟩
  | cons f rest ih => exact fun ⟨hlo, hvalue, hrest⟩ => ⟨hlo, hvalue, ih hrest⟩

/-- Bits below 64 of a number are not changed by reducing it to a word. -/
theorem mod_word_div_mod (y : Nat) {a m : Nat} (h : a + m ≤ 64) : y % 2 ^ 64 / 2 ^ a % 2 ^ m = y / 2 ^ a % 2 ^ m := by
  obtain ⟨c, hc⟩ : ∃ c, 64 = a + c := ⟨64 - a, by omega⟩
  rw [hc, pow_add, Nat.mod_mul_right_div_self, Nat.mod_mod_of_dvd _ (pow_dvd_pow 2 (by omega))]

theorem fieldSum_field {top : Nat} {l : List FieldAt} {a m : Nat} : ∀ {base : Nat}, FieldsFit base top l → asksField l a m = true →
    fieldSum l / 2 ^ a % 2 ^ m = fieldValue l a m := by
  induction l with
  | nil => intro _ _ _; simp [fieldSum, fieldValue]
  | cons f rest ih =>
    rintro base ⟨_, hvalue, hrest⟩ hask
    have hsum : fieldSum (f :: rest) = f.value * 2 ^ f.lo + fieldSum rest := rfl
    obtain ⟨c, hc⟩ := hrest.dvd
    unfold asksField at hask
    unfold fieldValue
    split at hask
    · rename_i hbefore
      rw [if_pos hbefore, ← ih hrest hask, hsum]
      obtain ⟨d, rfl⟩ : ∃ d, a = f.lo + f.width + d := ⟨_, (Nat.add_sub_cancel' hbefore).symm⟩
      have hsmall : f.value * 2 ^ f.lo < 2 ^ (f.lo + f.width) := by
        rw [pow_add, mul_comm]
        exact Nat.mul_lt_mul_of_pos_left hvalue (by positivity)
      rw [hc, pow_add 2 (f.lo + f.width) d, ← Nat.div_div_eq_div_mul, ← Nat.div_div_eq_div_mul,
        Nat.add_mul_div_left _ _ (by positivity), Nat.div_eq_of_lt hsmall, Nat.zero_add,
        Nat.mul_div_cancel_left _ (by positivity)]
    · rename_i hnot
      rw [if_neg hnot, hsum, hc]
      by_cases hat : f.lo = a ∧ f.width = m
      · obtain ⟨rfl, rfl⟩ := hat
        rw [if_pos ⟨rfl, rfl⟩, pow_add, mul_assoc, mul_comm f.value, ← Nat.mul_add,
          Nat.mul_div_cancel_left _ (by positivity), Nat.add_mul_mod_self_left, Nat.mod_eq_of_lt hvalue]
      · rw [if_neg hat]
        have hbelow : a + m ≤ f.lo := by simpa [hat] using hask
        obtain ⟨d, hd⟩ : ∃ d, f.lo = a + m + d := ⟨_, (Nat.add_sub_cancel' hbelow).symm⟩
        have hfactor : f.value * 2 ^ f.lo + 2 ^ (f.lo + f.width) * c =
            2 ^ a * (2 ^ m * (2 ^ d * (f.value + 2 ^ f.width * c))) := by
          rw [hd]; ring
        rw [hfactor, Nat.mul_div_cancel_left _ (by positivity), Nat.mul_mod_right]

/-- A word of fields reads back field by field, and as zero where no field stands. -/
theorem bits_layout {base top : Nat} {l : List FieldAt} (h : FieldsFit base top l) {a m : Nat}
    (hask : asksField l a m = true) (hword : a + m ≤ 64 := by decide) : bits (layout l) a m = fieldValue l a m := by
  rw [bits, layout_toNat, mod_word_div_mod _ hword, fieldSum_field h hask]

theorem layout_cons (f : FieldAt) (l : List FieldAt) : layout (f :: l) = put f.lo f.value + layout l := rfl

theorem layout_nil : layout [] = 0 := rfl

theorem bits_layout_nil (a m : Nat) : bits (layout []) a m = 0 := by simp [bits, layout_nil]

theorem layout_append (l₁ l₂ : List FieldAt) : layout (l₁ ++ l₂) = layout l₁ + layout l₂ := by
  simp [layout]

theorem fieldSum_append (l₁ l₂ : List FieldAt) : fieldSum (l₁ ++ l₂) = fieldSum l₁ + fieldSum l₂ := by
  simp [fieldSum]

/-- Bits below the second part of a word are those of its first part. -/
theorem bits_layout_left {mid top : Nat} {l₁ l₂ : List FieldAt} (h : FieldsFit mid top l₂) {a m : Nat} (ham : a + m ≤ mid)
    (hword : a + m ≤ 64 := by decide) : bits (layout (l₁ ++ l₂)) a m = bits (layout l₁) a m := by
  obtain ⟨c, hc⟩ := h.dvd
  obtain ⟨d, rfl⟩ := Nat.exists_eq_add_of_le ham
  have hfactor : 2 ^ (a + m + d) * c = 2 ^ a * (2 ^ m * (2 ^ d * c)) := by ring
  simp only [bits, layout_toNat, mod_word_div_mod _ hword]
  rw [fieldSum_append, hc, hfactor, Nat.add_mul_div_left _ _ (by positivity), Nat.add_mul_mod_self_left]

/-- Bits above the first part of a word are those of its second part. -/
theorem bits_layout_right {base mid top : Nat} {l₁ l₂ : List FieldAt} (h₁ : FieldsFit base mid l₁)
    (h₂ : FieldsFit mid top l₂) {a m : Nat} (ham : mid ≤ a) (hword : a + m ≤ 64 := by decide) :
    bits (layout (l₁ ++ l₂)) a m = bits (layout l₂) a m := by
  obtain ⟨c, hc⟩ := h₂.dvd
  obtain ⟨d, rfl⟩ := Nat.exists_eq_add_of_le ham
  simp only [bits, layout_toNat, mod_word_div_mod _ hword]
  rw [fieldSum_append, hc, pow_add, ← Nat.div_div_eq_div_mul, ← Nat.div_div_eq_div_mul,
    Nat.add_mul_div_left _ _ (by positivity), Nat.div_eq_of_lt h₁.lt, Nat.zero_add,
    Nat.mul_div_cancel_left _ (by positivity)]

theorem put_zero (lo : Nat) : put lo 0 = 0 := by simp [put]

/-! ## The sizes of codes -/

theorem bit_lt (b : Bool) : bit b < 2 := by cases b <;> decide
theorem Status.code_lt (x : Status) : x.code < 16 := by cases x <;> decide
theorem Size.code_lt (z : Size) : z.code < 8 := by cases z <;> decide
theorem Policy.code_lt (p : Policy) : p.code < 8 := by cases p <;> decide
theorem WindowKind.code_lt (k : WindowKind) : k.code < 4 := by cases k <;> decide
theorem Ceiling.code_lt (c : Ceiling) : c.code < 4 := by cases c <;> decide
theorem LineState.code_lt (x : LineState) : x.code < 4 := by cases x <;> decide
theorem LineOutcome.code_lt (x : LineOutcome) : x.code < 8 := by cases x <;> decide
theorem FaultKind.code_lt (k : FaultKind) : k.code < 16 := by cases k <;> decide
theorem HomeReason.code_lt (r : HomeReason) : r.code < 4 := by cases r <;> decide
theorem EntryKind.code_lt (k : EntryKind) : k.code < 8 := by cases k <;> decide
theorem Reason.code_lt (r : Reason) : r.code < 8 := by cases r <;> decide
theorem SlotState.code_lt (x : SlotState) : x.code < 8 := by cases x <;> simp [SlotState.code]
theorem SlotKind.code_lt (k : SlotKind) : k.code < 4 := by cases k <;> decide
theorem Action.code_lt (a : Action) : a.code < 16 := by cases a <;> decide
theorem EnginePhase.code_lt (x : EnginePhase) : x.code < 16 := by cases x <;> decide
theorem LinkState.code_lt (x : LinkState) : x.code < 4 := by cases x <;> decide

/-! ## Frames of the egress queue (section 10.2) -/

/-- Word 0 of a COMPLETION. -/
def completionFields (st : Fin 16) (tag : Fin 64) (x : Status) (n : Nat) : List FieldAt :=
  [⟨0, 4, 8⟩, ⟨4, 4, st.val⟩, ⟨8, 6, tag.val⟩, ⟨16, 4, x.code⟩, ⟨20, 4, n⟩]

theorem completionFields_fit (st : Fin 16) (tag : Fin 64) (x : Status) {n : Nat} (hn : n ≤ 8) :
    FieldsFit 0 24 (completionFields st tag x n) := by
  have := st.isLt
  have := tag.isLt
  have := x.code_lt
  simp only [completionFields, FieldsFit]
  omega

/-- The word of a NOTICE. -/
def noticeFields (target : Fin 16) (source : Fin 6) (number : BitVec 8) : List FieldAt :=
  [⟨0, 4, 9⟩, ⟨4, 4, target.val⟩, ⟨16, 3, source.val⟩, ⟨24, 8, number.toNat⟩]

theorem noticeFields_fit (target : Fin 16) (source : Fin 6) (number : BitVec 8) :
    FieldsFit 0 32 (noticeFields target source number) := by
  have := target.isLt
  have := source.isLt
  have := number.isLt
  simp only [noticeFields, FieldsFit]
  omega

/-- Settles O10. -/
theorem egressFrameLayout : Obligations.EgressFrameLayout := by
  refine ⟨fun st tag x ws hws => ?_, by decide, fun target source number => ?_⟩
  · have hfit := completionFields_fit st tag x hws
    refine ⟨layout (completionFields st tag x ws.length), ?_, bits_layout hfit rfl, bits_layout hfit rfl, bits_layout hfit rfl,
      bits_layout hfit rfl, bits_layout hfit rfl, bits_layout hfit rfl, bits_layout hfit rfl⟩
    simp [EgressFrame.encode, completionFields, layout_cons, layout_nil, add_assoc]
  · have hfit := noticeFields_fit target source number
    refine ⟨layout (noticeFields target source number), ?_, bits_layout hfit rfl, bits_layout hfit rfl, bits_layout hfit rfl,
      bits_layout hfit rfl, bits_layout hfit rfl, bits_layout hfit rfl, bits_layout hfit rfl⟩
    simp [EgressFrame.encode, noticeFields, layout_cons, layout_nil, add_assoc]

end Sys2Proof.Machine
end

section
/-! PROOFS. The map of management reads (sections 8.3 to 8.5, R168, R171 to R177). -/

namespace Sys2Proof.Machine

-- Proofs are elaborated one after another: the threads of proofs that wait for each other do not fit the memory of the check.
set_option Elab.async false

open Sys2Proof (Word)

/-! ## Numbers and codes alone in their word -/

theorem toNat_put_low {v n : Nat} (hv : v < 2 ^ n) (hn : n ≤ 64) : (put 0 v).toNat = v := by
  have hword : v < 2 ^ 64 := hv.trans_le (Nat.pow_le_pow_right (by decide) hn)
  rw [toNat_put 0 v (by rwa [pow_zero, mul_one]), pow_zero, mul_one]

theorem bits_put_low {v n : Nat} (hv : v < 2 ^ n) (hn : n ≤ 64) : bits (put 0 v) 0 n = v := by
  rw [bits, toNat_put_low hv hn, pow_zero, Nat.div_one, Nat.mod_eq_of_lt hv]

theorem bits_put_above {v n m : Nat} (hv : v < 2 ^ n) (hn : n ≤ 64) : bits (put 0 v) n m = 0 := by
  rw [bits, toNat_put_low hv hn, Nat.div_eq_of_lt hv, Nat.zero_mod]

/-- A bit vector alone in its word reads back, with zero above it. -/
theorem bits_put_bitVec {n : Nat} (c : BitVec n) (m : Nat) (hn : n ≤ 64 := by decide) :
    bits (put 0 c.toNat) 0 n = c.toNat ∧ bits (put 0 c.toNat) n m = 0 :=
  ⟨bits_put_low c.isLt hn, bits_put_above c.isLt hn⟩

theorem bits_put_bit (b : Bool) (m : Nat) : bits (put 0 (bit b)) 0 1 = bit b ∧ bits (put 0 (bit b)) 1 m = 0 :=
  ⟨bits_put_low (bit_lt b) (by decide), bits_put_above (bit_lt b) (by decide)⟩

/-! ## Windows (R173) -/

theorem WindowTable.stagingView_eq (t : WindowTable) (k : Fin 24) : t.stagingView k.val = t.staging[k] := by
  simp [WindowTable.stagingView]

theorem WindowTable.value_staging (t : WindowTable) (k : Fin 24) :
    t.value k.val = t.staging[k].rangeWord ∧ t.value (32 + k.val) = t.staging[k].attributeWord := by
  have hk := k.isLt
  refine ⟨?_, ?_⟩
  · rw [WindowTable.value, if_pos (by omega), WindowTable.stagingView_eq]
  · rw [WindowTable.value, if_neg (by omega), if_pos (by omega), Nat.add_sub_cancel_left, WindowTable.stagingView_eq]

theorem WindowTable.value_active (t : WindowTable) (k : Fin 24) :
    t.value (256 + k.val) = (t.activeView k.val).rangeWord ∧ t.value (288 + k.val) = (t.activeView k.val).attributeWord := by
  have hk := k.isLt
  refine ⟨?_, ?_⟩
  · rw [WindowTable.value, if_neg (by omega), if_neg (by omega), if_pos (by omega), Nat.add_sub_cancel_left]
  · rw [WindowTable.value, if_neg (by omega), if_neg (by omega), if_neg (by omega), if_pos (by omega),
      Nat.add_sub_cancel_left]

theorem WindowTable.activeView_of_lt (t : WindowTable) {k : Nat} (h : k < t.active.length) :
    t.activeView k = t.active[k] := by
  simp [WindowTable.activeView, h]

theorem WindowTable.activeView_of_ge (t : WindowTable) {k : Nat} (h : t.active.length ≤ k) :
    t.activeView k = WindowRecord.reset := by
  simp [WindowTable.activeView, h]

/-! ## Store, entries and slots (R175, R176) -/

theorem State.storeWord_line (s : State) (w : WayRef) : s.storeWord (4 * w.set.val + w.way.val) = (s.line w).word := by
  have hset := w.set.isLt
  have hway := w.way.isLt
  have hread : (⟨Fin.ofNat 128 ((4 * w.set.val + w.way.val) / 4), Fin.ofNat 4 (4 * w.set.val + w.way.val)⟩ : WayRef) = w := by
    have h₁ : Fin.ofNat 128 ((4 * w.set.val + w.way.val) / 4) = w.set := Fin.ext (by simp only [Fin.val_ofNat]; omega)
    have h₂ : Fin.ofNat 4 (4 * w.set.val + w.way.val) = w.way := Fin.ext (by simp only [Fin.val_ofNat]; omega)
    rw [h₁, h₂]
  rw [State.storeWord, if_pos (by omega), hread]

theorem State.storeWord_entry (s : State) (n : Fin 12) :
    s.storeWord (1024 + n.val) = entryFirstWord (s.entry n) ∧
      s.storeWord (1088 + n.val) = entrySecondWord (s.entry n) := by
  have hn := n.isLt
  refine ⟨?_, ?_⟩
  · rw [State.storeWord, if_neg (by omega), if_pos (by omega), Nat.add_sub_cancel_left, Fin.ofNat_val_eq_self]
  · rw [State.storeWord, if_neg (by omega), if_neg (by omega), if_neg (by omega), if_pos (by omega),
      Nat.add_sub_cancel_left, Fin.ofNat_val_eq_self]

theorem State.storeWord_slot (s : State) (k : Fin 4) :
    s.storeWord (1040 + k.val) = slotFirstWord (s.slot k) ∧ s.storeWord (1104 + k.val) = slotSecondWord (s.slot k) := by
  have hk := k.isLt
  refine ⟨?_, ?_⟩
  · rw [State.storeWord, if_neg (by omega), if_neg (by omega), if_pos (by omega), Nat.add_sub_cancel_left,
      Fin.ofNat_val_eq_self]
  · rw [State.storeWord, if_neg (by omega), if_neg (by omega), if_neg (by omega), if_neg (by omega),
      Nat.add_sub_cancel_left, Fin.ofNat_val_eq_self]

/-! ## The fault record and the D-link (R174, R177) -/

theorem FaultRecord.value_counts (r : FaultRecord) (h : r.entries.length ≤ 8) :
    bits (r.value 0) 0 4 = r.entries.length ∧ bits (r.value 0) 4 4 = 0 ∧ bits (r.value 0) 8 8 = r.overflow.toNat ∧
      bits (r.value 0) 16 48 = 0 := by
  have hfit : FieldsFit 0 64 [⟨0, 4, r.entries.length⟩, ⟨8, 8, r.overflow.toNat⟩] := by
    have := r.overflow.isLt
    simp only [FieldsFit]
    omega
  have hword : r.value 0 = layout [⟨0, 4, r.entries.length⟩, ⟨8, 8, r.overflow.toNat⟩] := by
    simp [FaultRecord.value, layout_cons, layout_nil]
  rw [hword]
  exact ⟨bits_layout hfit rfl, bits_layout hfit rfl, bits_layout hfit rfl, bits_layout hfit rfl⟩

theorem FaultRecord.value_of_empty {r : FaultRecord} (h : r.entries = []) : r.value 1 = 0 ∧ r.value 2 = 0 := by
  simp [FaultRecord.value, h]

theorem FaultRecord.value_of_cons {r : FaultRecord} {f : FaultEntry} {rest : List FaultEntry} (h : r.entries = f :: rest) :
    r.value 1 = f.firstWord ∧ r.value 2 = f.secondWord := by
  simp [FaultRecord.value, h]

theorem DLink.value_state (d : DLink) :
    bits (d.value 0) 0 2 = d.state.code ∧ bits (d.value 0) 2 2 = 0 ∧ bits (d.value 0) 4 1 = bit d.signal ∧
      bits (d.value 0) 5 11 = 0 ∧ bits (d.value 0) 16 16 = d.homeId.toNat ∧ bits (d.value 0) 32 32 = 0 := by
  have hfit : FieldsFit 0 64 [⟨0, 2, d.state.code⟩, ⟨4, 1, bit d.signal⟩, ⟨16, 16, d.homeId.toNat⟩] := by
    have := d.state.code_lt
    have := bit_lt d.signal
    have := d.homeId.isLt
    simp only [FieldsFit]
    omega
  have hword : d.value 0 = layout [⟨0, 2, d.state.code⟩, ⟨4, 1, bit d.signal⟩, ⟨16, 16, d.homeId.toNat⟩] := by
    simp [DLink.value, layout_cons, layout_nil, add_assoc]
  rw [hword]
  exact ⟨bits_layout hfit rfl, bits_layout hfit rfl, bits_layout hfit rfl, bits_layout hfit rfl, bits_layout hfit rfl,
    bits_layout hfit rfl⟩

/-! ## The command (R116, R168) -/

/-- Taking a head leaves what the claims call `headTaken` (R103, R106). -/
theorem State.take_eq_headTaken (s : State) (st : Fin 16) : s.take st = s.headTaken st := rfl

end Sys2Proof.Machine
end

section
/-! PROOFS. Byte lanes and stored bytes (R3, R19, R190), and the packets of the D-link (section 10.3). -/

namespace Sys2Proof.Machine

-- Proofs are elaborated one after another: the threads of proofs that wait for each other do not fit the memory of the check.
set_option Elab.async false

open Sys2Proof (Word LineAddr ByteAddr LineData Frame)

/-! ## Byte lanes and stored bytes -/

/-- A lane mask selects the lanes of the access in its word (R190). -/
theorem laneMask_getLsbD (a : ByteAddr) (z : Size) {i : Nat} (hi : i < 64) :
    (laneMask a z).getLsbD i = decide (a.toNat % 8 ≤ i / 8 ∧ i / 8 < a.toNat % 8 + z.bytes) := by
  rw [laneMask, BitVec.getLsbD_ofNat, Nat.testBit_mul_two_pow, Nat.testBit_two_pow_sub_one, Bool.eq_iff_iff]
  simp only [Bool.and_eq_true, decide_eq_true_eq]
  omega

/-- An aligned access of less than a line lies in one word. -/
theorem aligned_lane_add {a : ByteAddr} {z : Size} (h : a.toNat % z.bytes = 0) (hz : z ≠ .b64) :
    a.toNat % 8 + z.bytes ≤ 8 := by
  cases z <;> simp only [Size.bytes, ne_eq, not_true_eq_false, reduceCtorEq, not_false_eq_true] at h hz ⊢ <;> omega

theorem wordIndex_val (a : ByteAddr) : (wordIndex a).val = a.toNat / 8 % 8 := rfl

/-- The bits of word `w` that an aligned access covers are those of its bytes (R19). -/
theorem wordMask_getLsbD {a : ByteAddr} {z : Size} (h : a.toNat % z.bytes = 0) (w : Fin 8) {i : Nat} (hi : i < 64) :
    (wordMask a z w).getLsbD i =
      decide (a.toNat % 64 ≤ 8 * w.val + i / 8 ∧ 8 * w.val + i / 8 < a.toNat % 64 + z.bytes) := by
  by_cases hz : z = .b64
  · subst hz
    have hline : a.toNat % 64 = 0 := h
    have hall : wordMask a .b64 w = BitVec.allOnes 64 := rfl
    rw [hall, BitVec.getLsbD_allOnes, Bool.eq_iff_iff]
    simp only [decide_eq_true_eq]
    simp only [Size.bytes]
    omega
  · have hlane := aligned_lane_add h hz
    have hpos : 0 < z.bytes := by cases z <;> decide
    have hmask : wordMask a z w = if w = wordIndex a then laneMask a z else 0 := by
      cases z with
      | b64 => exact absurd rfl hz
      | _ => rfl
    have hindex := wordIndex_val a
    rw [hmask]
    split
    · rename_i hw
      rw [laneMask_getLsbD a z hi, Bool.eq_iff_iff, hw]
      simp only [decide_eq_true_eq]
      omega
    · rename_i hw
      have hne : w.val ≠ a.toNat / 8 % 8 := fun hval => hw (Fin.ext hval)
      rw [Bool.eq_iff_iff]
      simp only [BitVec.ofNat_eq_ofNat, BitVec.getLsbD_zero, Bool.false_eq_true, decide_eq_true_eq, false_iff]
      omega

theorem touched_getLsbD {a : ByteAddr} {z : Size} (h : a.toNat % z.bytes = 0) (w : Fin 8) :
    (touched a z).getLsbD w.val =
      decide (a.toNat % 64 < 8 * w.val + 8 ∧ 8 * w.val < a.toNat % 64 + z.bytes) := by
  have hw := w.isLt
  by_cases hz : z = .b64
  · subst hz
    have hline : a.toNat % 64 = 0 := h
    have hall : touched a .b64 = BitVec.allOnes 8 := rfl
    rw [hall, BitVec.getLsbD_allOnes, Bool.eq_iff_iff]
    simp only [decide_eq_true_eq]
    simp only [Size.bytes]
    omega
  · have hlane := aligned_lane_add h hz
    have hpos : 0 < z.bytes := by cases z <;> decide
    have hmark : touched a z = BitVec.ofNat 8 (2 ^ (wordIndex a).val) := by
      cases z with
      | b64 => exact absurd rfl hz
      | _ => rfl
    rw [hmark, BitVec.getLsbD_ofNat, Nat.testBit_two_pow, wordIndex_val, Bool.eq_iff_iff]
    simp only [Bool.and_eq_true, decide_eq_true_eq]
    omega

theorem storeBytes_getElem (old : LineData) (a : ByteAddr) (z : Size) (data : List Word) (w : Fin 8) :
    (storeBytes old a z data)[w] = (old[w] &&& ~~~ wordMask a z w) |||
      (data.getD (if z = .b64 then w.val else 0) 0 &&& wordMask a z w) := by
  cases z <;> simp [storeBytes]

/-- Settles O22: bit by bit, by the mask of the word. -/
theorem storedBytesAndTouchedWords : Obligations.StoredBytesAndTouchedWords := by
  intro old a z data w i halign hi
  refine ⟨?_, touched_getLsbD halign w, fun _ => laneMask_getLsbD a z hi⟩
  rw [storeBytes_getElem, BitVec.getLsbD_or, BitVec.getLsbD_and, BitVec.getLsbD_and, BitVec.getLsbD_not,
    wordMask_getLsbD halign w hi]
  by_cases hcovered : a.toNat % 64 ≤ 8 * w.val + i / 8 ∧ 8 * w.val + i / 8 < a.toNat % 64 + z.bytes
  · simp only [if_pos hcovered, decide_eq_true hcovered, Bool.not_true, Bool.and_false, Bool.false_or, Bool.and_true]
  · simp only [if_neg hcovered, decide_eq_false hcovered, hi, decide_true, Bool.not_false, Bool.and_true, Bool.and_false,
      Bool.or_false]

/-! ## The words of packets to the home -/

theorem requestHeader_eq (kind : Nat) (t : Fin 32) : requestHeader kind t = layout [⟨0, 5, kind⟩, ⟨8, 5, t.val⟩] := by
  simp [requestHeader, layout_cons, layout_nil]

theorem requestHeader_fit {kind : Nat} (hkind : kind < 32) (t : Fin 32) :
    FieldsFit 0 16 [⟨0, 5, kind⟩, ⟨8, 5, t.val⟩] := by
  have := t.isLt
  simp only [FieldsFit]
  omega

/-- The header of a request with no field above its tag. -/
theorem requestHeader_fields {kind : Nat} (hkind : kind < 32) (t : Fin 32) :
    bits (requestHeader kind t) 0 5 = kind ∧ bits (requestHeader kind t) 5 3 = 0 ∧
      bits (requestHeader kind t) 8 5 = t.val ∧ bits (requestHeader kind t) 13 51 = 0 := by
  have hfit := requestHeader_fit hkind t
  rw [requestHeader_eq]
  exact ⟨bits_layout hfit rfl, bits_layout hfit rfl, bits_layout hfit rfl, bits_layout hfit rfl⟩

/-- The header of a request that carries a word mask. -/
theorem maskHeader_fields {kind : Nat} (hkind : kind < 32) (t : Fin 32) (m : BitVec 8) :
    let w := requestHeader kind t + put 24 m.toNat
    bits w 0 5 = kind ∧ bits w 5 3 = 0 ∧ bits w 8 5 = t.val ∧ bits w 13 11 = 0 ∧ bits w 24 8 = m.toNat ∧
      bits w 32 32 = 0 := by
  have hmask : FieldsFit 16 64 [⟨24, 8, m.toNat⟩] := ⟨show 16 ≤ 24 by decide, m.isLt, show 32 ≤ 64 by decide⟩
  have hfit := hmask.append (requestHeader_fit hkind t)
  have hword : requestHeader kind t + put 24 m.toNat = layout ([⟨0, 5, kind⟩, ⟨8, 5, t.val⟩] ++ [⟨24, 8, m.toNat⟩]) := by
    simp [requestHeader_eq, layout_cons, layout_nil, add_assoc]
  dsimp only
  rw [hword]
  exact ⟨bits_layout hfit rfl, bits_layout hfit rfl, bits_layout hfit rfl, bits_layout hfit rfl, bits_layout hfit rfl,
    bits_layout hfit rfl⟩

/-- The header of a direct access: its size code stands above the tag. -/
theorem directHeader_fields {kind : Nat} (hkind : kind < 32) (t : Fin 32) (z : Size) :
    let w := requestHeader kind t + put 16 z.code
    bits w 0 5 = kind ∧ bits w 5 3 = 0 ∧ bits w 8 5 = t.val ∧ bits w 13 3 = 0 ∧ bits w 16 3 = z.code ∧
      bits w 19 45 = 0 := by
  have hsize : FieldsFit 16 64 [⟨16, 3, z.code⟩] := ⟨le_rfl, z.code_lt, show 19 ≤ 64 by decide⟩
  have hfit := hsize.append (requestHeader_fit hkind t)
  have hword : requestHeader kind t + put 16 z.code = layout ([⟨0, 5, kind⟩, ⟨8, 5, t.val⟩] ++ [⟨16, 3, z.code⟩]) := by
    simp [requestHeader_eq, layout_cons, layout_nil, add_assoc]
  dsimp only
  rw [hword]
  exact ⟨bits_layout hfit rfl, bits_layout hfit rfl, bits_layout hfit rfl, bits_layout hfit rfl, bits_layout hfit rfl,
    bits_layout hfit rfl⟩

/-- The header of a RECALL-REPLY: the home's tag, the outcome, and the word mask of a DATA outcome. -/
theorem recallHeader_fields (h : BitVec 8) {outcome mask : Nat} (ho : outcome < 4) (hm : mask < 256) :
    let w := put 0 0x0A + put 8 h.toNat + put 20 outcome + put 24 mask
    bits w 0 5 = 0x0A ∧ bits w 5 3 = 0 ∧ bits w 8 8 = h.toNat ∧ bits w 16 4 = 0 ∧ bits w 20 2 = outcome ∧
      bits w 22 2 = 0 ∧ bits w 24 8 = mask ∧ bits w 32 32 = 0 := by
  have hfit : FieldsFit 0 64 [⟨0, 5, 0x0A⟩, ⟨8, 8, h.toNat⟩, ⟨20, 2, outcome⟩, ⟨24, 8, mask⟩] := by
    have := h.isLt
    simp only [FieldsFit]
    omega
  have hword : put 0 0x0A + put 8 h.toNat + put 20 outcome + put 24 mask =
      layout [⟨0, 5, 0x0A⟩, ⟨8, 8, h.toNat⟩, ⟨20, 2, outcome⟩, ⟨24, 8, mask⟩] := by
    simp [layout_cons, layout_nil, add_assoc]
  dsimp only
  rw [hword]
  exact ⟨bits_layout hfit rfl, bits_layout hfit rfl, bits_layout hfit rfl, bits_layout hfit rfl, bits_layout hfit rfl,
    bits_layout hfit rfl, bits_layout hfit rfl, bits_layout hfit rfl⟩

theorem lineWord_fields (l : LineAddr) : bits (lineWord l) 0 34 = l.toNat ∧ bits (lineWord l) 34 30 = 0 :=
  bits_put_bitVec l 30

/-! ## The reading of packets from the home -/

theorem field_toNat (w : Word) (lo n : Nat) : (field w lo n).toNat = bits w lo n := by
  rw [field, BitVec.toNat_ofNat, Nat.mod_eq_of_lt (bits_lt w lo n)]

theorem field_eq_of_bits {w : Word} {lo n : Nat} {v : BitVec n} (h : bits w lo n = v.toNat) : field w lo n = v :=
  BitVec.eq_of_toNat_eq ((field_toNat w lo n).trans h)

theorem lineOfWords_toList (ws : LineData) : lineOfWords ws.toList = ws := by
  ext1 i hi
  simp [lineOfWords]

/-- A frame with good CRC is the packet of its header and of as many words as its kind requires. -/
theorem homePacket_taken {h : Word} {rest : List Word} {n : Nat} (hn : homeWords (bits h 0 5) (field h 16 3) = some n)
    (hlen : n ≤ rest.length) : homePacket ⟨true, h :: rest⟩ = homePacketOf h (rest.take n) := by
  simp [homePacket, hn, hlen]

theorem homePacket_short {h : Word} {rest : List Word} {n : Nat} (hn : homeWords (bits h 0 5) (field h 16 3) = some n)
    (hlen : rest.length < n) : homePacket ⟨true, h :: rest⟩ = none := by
  simp [homePacket, hn, hlen]

theorem homePacket_unknown {h : Word} {rest : List Word} (hn : homeWords (bits h 0 5) (field h 16 3) = none) :
    homePacket ⟨true, h :: rest⟩ = none := by
  simp [homePacket, hn]

/-- The packets whose words after the header are one address or identity word. -/
theorem homePacket_oneWord {h v : Word} {more : List Word} (hn : homeWords (bits h 0 5) (field h 16 3) = some 1) :
    homePacket ⟨true, h :: v :: more⟩ = homePacketOf h [v] := by
  rw [homePacket_taken hn (by simp)]
  rfl

/-- The packets that carry a line address and a line's eight words. -/
theorem homePacket_lineData {h v : Word} {ws : LineData} {more : List Word}
    (hn : homeWords (bits h 0 5) (field h 16 3) = some 9) :
    homePacket ⟨true, h :: v :: (ws.toList ++ more)⟩ = homePacketOf h (v :: ws.toList) := by
  have hlen : ws.toList.length = 8 := ws.length_toList
  rw [homePacket_taken hn (by simp)]
  have htake : (v :: (ws.toList ++ more)).take 9 = v :: ws.toList := by
    rw [List.take_succ_cons, List.take_left' hlen]
  rw [htake]

theorem homePacket_noWord {h : Word} {more : List Word} (hn : homeWords (bits h 0 5) (field h 16 3) = some 0) :
    homePacket ⟨true, h :: more⟩ = homePacketOf h [] := by
  rw [homePacket_taken hn (Nat.zero_le _)]
  rfl

/-- What a WORD-DATA requires by its size code (R192; log entry 7). -/
theorem homeWords_wordData (size : BitVec 3) : homeWords 0x16 size =
    some (if size.toNat ≤ 3 then 1 else if size.toNat = 4 then 8 else if Config.wordDataFillsLine size then 8 else 1) := by
  have hsize : size.toNat < 8 := size.isLt
  unfold homeWords
  generalize size.toNat = n at hsize ⊢
  interval_cases n <;> rfl

theorem homeWords_unknown {kind : Nat} (h : kind < 0x11 ∨ 0x1A < kind) (size : BitVec 3) : homeWords kind size = none := by
  unfold homeWords
  split
  case h_11 => rfl
  all_goals omega

theorem HomeReason.ofCode_eq (n : Nat) :
    HomeReason.ofCode n = if n = 1 then .poisoned else if n = 2 then .outOfRange else .protocol := by
  unfold HomeReason.ofCode
  split
  · rfl
  · rfl
  · rename_i hone htwo
    rw [if_neg hone, if_neg htwo]

end Sys2Proof.Machine
end

section
/-! PROOFS. The words of management reads (section 10.4): the fields of every record word, and the map of units and indices. -/

namespace Sys2Proof.Machine

-- Proofs are elaborated one after another: the threads of proofs that wait for each other do not fit the memory of the check.
set_option Elab.async false

open Sys2Proof (Word LineAddr ByteAddr LineData)

/-! ## Stream records, windows and notice sources (R173, R174) -/

def StreamRecord.fields (r : StreamRecord) : List FieldAt :=
  [⟨0, 1, bit r.isOpen⟩, ⟨1, 1, bit r.manage⟩, ⟨2, 3, r.policy.code⟩, ⟨8, 5, r.depth.toNat⟩,
    ⟨16, 5, r.outstanding.length⟩, ⟨24, 4, r.queue.length⟩]

theorem StreamRecord.fields_fit {r : StreamRecord} (ho : r.outstanding.length ≤ 16) (hq : r.queue.length ≤ 8) :
    FieldsFit 0 64 r.fields := by
  have := bit_lt r.isOpen
  have := bit_lt r.manage
  have := r.policy.code_lt
  have := r.depth.isLt
  simp only [StreamRecord.fields, FieldsFit]
  omega

theorem StreamRecord.word_eq (r : StreamRecord) : r.word = layout r.fields := by
  simp [StreamRecord.word, StreamRecord.fields, layout_cons, layout_nil, add_assoc]

theorem StreamRecord.word_fields (r : StreamRecord) (ho : r.outstanding.length ≤ 16) (hq : r.queue.length ≤ 8) :
    bits r.word 0 1 = bit r.isOpen ∧ bits r.word 1 1 = bit r.manage ∧ bits r.word 2 3 = r.policy.code ∧
    bits r.word 5 3 = 0 ∧ bits r.word 8 5 = r.depth.toNat ∧ bits r.word 13 3 = 0 ∧
    bits r.word 16 5 = r.outstanding.length ∧ bits r.word 21 3 = 0 ∧ bits r.word 24 4 = r.queue.length ∧
    bits r.word 28 36 = 0 := by
  have hfit := StreamRecord.fields_fit ho hq
  rw [r.word_eq]
  exact ⟨bits_layout hfit rfl, bits_layout hfit rfl, bits_layout hfit rfl, bits_layout hfit rfl, bits_layout hfit rfl,
    bits_layout hfit rfl, bits_layout hfit rfl, bits_layout hfit rfl, bits_layout hfit rfl, bits_layout hfit rfl⟩

def WindowRecord.rangeFields (r : WindowRecord) : List FieldAt :=
  [⟨0, 1, bit r.inUse⟩, ⟨4, 28, r.start.toNat⟩, ⟨32, 28, r.last.toNat⟩]

theorem WindowRecord.rangeFields_fit (r : WindowRecord) : FieldsFit 0 64 r.rangeFields := by
  have := bit_lt r.inUse
  have := r.start.isLt
  have := r.last.isLt
  simp only [WindowRecord.rangeFields, FieldsFit]
  omega

theorem WindowRecord.rangeWord_eq (r : WindowRecord) : r.rangeWord = layout r.rangeFields := by
  simp [WindowRecord.rangeWord, WindowRecord.rangeFields, layout_cons, layout_nil, add_assoc]

def WindowRecord.attributeFields (r : WindowRecord) : List FieldAt :=
  [⟨0, 2, r.kind.code⟩, ⟨4, 2, r.ceiling.code⟩, ⟨8, 1, bit r.isProtected⟩]

theorem WindowRecord.attributeFields_fit (r : WindowRecord) : FieldsFit 0 64 r.attributeFields := by
  have := r.kind.code_lt
  have := r.ceiling.code_lt
  have := bit_lt r.isProtected
  simp only [WindowRecord.attributeFields, FieldsFit]
  omega

theorem WindowRecord.attributeWord_eq (r : WindowRecord) : r.attributeWord = layout r.attributeFields := by
  simp [WindowRecord.attributeWord, WindowRecord.attributeFields, layout_cons, layout_nil, add_assoc]

theorem WindowRecord.word_fields (r : WindowRecord) :
    bits r.rangeWord 0 1 = bit r.inUse ∧ bits r.rangeWord 1 3 = 0 ∧ bits r.rangeWord 4 28 = r.start.toNat ∧
    bits r.rangeWord 32 28 = r.last.toNat ∧ bits r.rangeWord 60 4 = 0 ∧
    bits r.attributeWord 0 2 = r.kind.code ∧ bits r.attributeWord 2 2 = 0 ∧ bits r.attributeWord 4 2 = r.ceiling.code ∧
    bits r.attributeWord 6 2 = 0 ∧ bits r.attributeWord 8 1 = bit r.isProtected ∧ bits r.attributeWord 9 55 = 0 := by
  have hrange := r.rangeFields_fit
  have hattr := r.attributeFields_fit
  rw [r.rangeWord_eq, r.attributeWord_eq]
  exact ⟨bits_layout hrange rfl, bits_layout hrange rfl, bits_layout hrange rfl, bits_layout hrange rfl,
    bits_layout hrange rfl, bits_layout hattr rfl, bits_layout hattr rfl, bits_layout hattr rfl, bits_layout hattr rfl,
    bits_layout hattr rfl, bits_layout hattr rfl⟩

def NoticeSource.fields (n : NoticeSource) : List FieldAt :=
  [⟨0, 1, bit n.status⟩, ⟨1, 1, bit n.enable⟩, ⟨4, 4, n.target.val⟩]

theorem NoticeSource.fields_fit (n : NoticeSource) : FieldsFit 0 64 n.fields := by
  have := bit_lt n.status
  have := bit_lt n.enable
  have := n.target.isLt
  simp only [NoticeSource.fields, FieldsFit]
  omega

theorem NoticeSource.word_eq (n : NoticeSource) : n.word = layout n.fields := by
  simp [NoticeSource.word, NoticeSource.fields, layout_cons, layout_nil, add_assoc]

theorem NoticeSource.word_fields (n : NoticeSource) :
    bits n.word 0 1 = bit n.status ∧ bits n.word 1 1 = bit n.enable ∧ bits n.word 2 2 = 0 ∧
    bits n.word 4 4 = n.target.val ∧ bits n.word 8 56 = 0 := by
  have hfit := n.fields_fit
  rw [n.word_eq]
  exact ⟨bits_layout hfit rfl, bits_layout hfit rfl, bits_layout hfit rfl, bits_layout hfit rfl, bits_layout hfit rfl⟩

/-! ## Probes (R175) -/

/-- The code of a holder field, and the number of what holds. -/
@[simp] def Holder.code : Holder → Nat
  | .none => 0
  | .entry _ => 1
  | .slot _ => 2

@[simp] def Holder.number : Holder → Nat
  | .none => 0
  | .entry n => n.val
  | .slot k => k.val

theorem Holder.code_lt (h : Holder) : h.code < 4 := by cases h <;> simp [Holder.code]

theorem Holder.number_lt (h : Holder) : h.number < 16 := by
  cases h <;> simp only [Holder.number] <;> omega

def LineRecord.fields (r : LineRecord) : List FieldAt :=
  [⟨0, 27, r.tag.toNat⟩, ⟨28, 2, r.state.code⟩, ⟨32, 8, r.marks.toNat⟩, ⟨40, 2, r.holder.code⟩, ⟨44, 4, r.holder.number⟩]

theorem LineRecord.fields_fit (r : LineRecord) : FieldsFit 0 64 r.fields := by
  have := r.tag.isLt
  have := r.state.code_lt
  have := r.marks.isLt
  have := r.holder.code_lt
  have := r.holder.number_lt
  simp only [LineRecord.fields, FieldsFit]
  omega

theorem LineRecord.word_eq (r : LineRecord) : r.word = layout r.fields := by
  unfold LineRecord.word LineRecord.fields
  cases r.holder <;> simp [Holder.code, Holder.number, layout_cons, layout_nil, put_zero, add_assoc]

theorem LineRecord.word_fields (r : LineRecord) :
    bits r.word 0 27 = r.tag.toNat ∧ bits r.word 27 1 = 0 ∧ bits r.word 28 2 = r.state.code ∧ bits r.word 30 2 = 0 ∧
    bits r.word 32 8 = r.marks.toNat ∧ bits r.word 42 2 = 0 ∧ bits r.word 48 16 = 0 ∧
    bits r.word 40 2 = r.holder.code ∧ bits r.word 44 4 = r.holder.number := by
  have hfit := r.fields_fit
  rw [r.word_eq]
  exact ⟨bits_layout hfit rfl, bits_layout hfit rfl, bits_layout hfit rfl, bits_layout hfit rfl, bits_layout hfit rfl,
    bits_layout hfit rfl, bits_layout hfit rfl, bits_layout hfit rfl, bits_layout hfit rfl⟩

/-! ## Fault entries (R174) -/

def FaultEntry.firstFields (f : FaultEntry) : List FieldAt :=
  [⟨0, 4, f.kind.code⟩, ⟨8, 1, bit f.stream.isSome⟩, ⟨9, 1, bit f.requestTag.isSome⟩, ⟨10, 1, bit f.line.isSome⟩,
    ⟨11, 1, bit f.dTag.isSome⟩, ⟨12, 1, bit f.reason.isSome⟩, ⟨13, 1, bit f.attempts.isSome⟩,
    ⟨16, 4, (f.stream.map (·.val)).getD 0⟩, ⟨24, 6, (f.requestTag.map (·.val)).getD 0⟩,
    ⟨32, 5, (f.dTag.map (·.val)).getD 0⟩, ⟨40, 2, (f.reason.map (·.code)).getD 0⟩, ⟨48, 8, f.attempts.getD 0⟩]

/-- The value of an optional field, 0 where it is absent, stays below what bounds every present value. -/
theorem getD_map_lt {α : Type} (o : Option α) {g : α → Nat} {b : Nat} (hb : 0 < b) (hg : ∀ x, g x < b) :
    (o.map g).getD 0 < b := by
  cases o with
  | none => exact hb
  | some x => exact hg x

theorem FaultEntry.firstFields_fit {f : FaultEntry} (ha : ∀ a, f.attempts = some a → a ≤ 255) :
    FieldsFit 0 64 f.firstFields := by
  have hattempts : f.attempts.getD 0 < 256 := by
    cases h : f.attempts with
    | none => decide
    | some a => exact Nat.lt_succ_of_le (ha a h)
  have := f.kind.code_lt
  have := bit_lt f.stream.isSome
  have := bit_lt f.requestTag.isSome
  have := bit_lt f.line.isSome
  have := bit_lt f.dTag.isSome
  have := bit_lt f.reason.isSome
  have := bit_lt f.attempts.isSome
  have := getD_map_lt f.stream (g := (·.val)) (show 0 < 16 by decide) fun x => x.isLt
  have := getD_map_lt f.requestTag (g := (·.val)) (show 0 < 64 by decide) fun x => x.isLt
  have := getD_map_lt f.dTag (g := (·.val)) (show 0 < 32 by decide) fun x => x.isLt
  have := getD_map_lt f.reason (g := (·.code)) (show 0 < 4 by decide) fun x => x.code_lt
  simp only [FaultEntry.firstFields, FieldsFit]
  omega

theorem FaultEntry.firstWord_eq (f : FaultEntry) : f.firstWord = layout f.firstFields := by
  simp [FaultEntry.firstWord, FaultEntry.firstFields, layout_cons, layout_nil, add_assoc]

theorem FaultEntry.secondWord_eq (f : FaultEntry) : f.secondWord = layout [⟨0, 34, (f.line.map (·.toNat)).getD 0⟩] := by
  simp [FaultEntry.secondWord, layout_cons, layout_nil]

theorem FaultEntry.word_fields (f : FaultEntry) (ha : ∀ a, f.attempts = some a → a ≤ 255) :
    let w := f.firstWord
    bits w 0 4 = f.kind.code ∧ bits w 4 4 = 0 ∧ bits w 8 1 = bit f.stream.isSome ∧ bits w 9 1 = bit f.requestTag.isSome ∧
    bits w 10 1 = bit f.line.isSome ∧ bits w 11 1 = bit f.dTag.isSome ∧ bits w 12 1 = bit f.reason.isSome ∧
    bits w 13 1 = bit f.attempts.isSome ∧ bits w 14 2 = 0 ∧ bits w 16 4 = (f.stream.map (·.val)).getD 0 ∧
    bits w 20 4 = 0 ∧ bits w 24 6 = (f.requestTag.map (·.val)).getD 0 ∧ bits w 30 2 = 0 ∧
    bits w 32 5 = (f.dTag.map (·.val)).getD 0 ∧ bits w 37 3 = 0 ∧ bits w 40 2 = (f.reason.map (·.code)).getD 0 ∧
    bits w 42 6 = 0 ∧ bits w 48 8 = f.attempts.getD 0 ∧ bits w 56 8 = 0 ∧
    bits f.secondWord 0 34 = (f.line.map (·.toNat)).getD 0 ∧ bits f.secondWord 34 30 = 0 := by
  have hfit := FaultEntry.firstFields_fit ha
  have hline : FieldsFit 0 64 [⟨0, 34, (f.line.map (·.toNat)).getD 0⟩] := by
    have := getD_map_lt f.line (g := (·.toNat)) (show 0 < 2 ^ 34 by decide) fun x => x.isLt
    simp only [FieldsFit]
    omega
  dsimp only
  rw [f.firstWord_eq, f.secondWord_eq]
  exact ⟨bits_layout hfit rfl, bits_layout hfit rfl, bits_layout hfit rfl, bits_layout hfit rfl, bits_layout hfit rfl,
    bits_layout hfit rfl, bits_layout hfit rfl, bits_layout hfit rfl, bits_layout hfit rfl, bits_layout hfit rfl,
    bits_layout hfit rfl, bits_layout hfit rfl, bits_layout hfit rfl, bits_layout hfit rfl, bits_layout hfit rfl,
    bits_layout hfit rfl, bits_layout hfit rfl, bits_layout hfit rfl, bits_layout hfit rfl, bits_layout hline rfl,
    bits_layout hline rfl⟩

/-! ## Tracker entries (R176) -/

/-- The code of a phase and the code of the reason a WAITING entry waits with. -/
@[simp] def EntryPhase.code : EntryPhase → Nat
  | .waiting _ => 1
  | .issued _ => 2
  | .ending => 3

@[simp] def EntryPhase.reasonCode : EntryPhase → Nat
  | .waiting why => why.code
  | _ => 0

theorem EntryPhase.code_lt (x : EntryPhase) : x.code < 4 := by cases x <;> simp [EntryPhase.code]

theorem EntryPhase.reasonCode_lt (x : EntryPhase) : x.reasonCode < 8 := by
  cases x with
  | waiting why => exact why.code_lt
  | issued t => exact show 0 < 8 by decide
  | ending => exact show 0 < 8 by decide

theorem EntryPhase.fields_eq (x : EntryPhase) : x.fields = put 4 x.code + put 8 x.reasonCode := by
  cases x <;> simp [EntryPhase.fields, EntryPhase.code, EntryPhase.reasonCode, put_zero]

def TrackerEntry.firstFields (e : TrackerEntry) : List FieldAt :=
  [⟨0, 1, 1⟩, ⟨1, 3, e.kind.code⟩, ⟨4, 2, e.phase.code⟩, ⟨8, 3, e.phase.reasonCode⟩, ⟨12, 4, e.attempts⟩,
    ⟨16, 1, bit e.converted⟩, ⟨20, 3, e.parked.length⟩, ⟨30, 34, e.line.toNat⟩]

theorem TrackerEntry.firstFields_fit {e : TrackerEntry} (ha : e.attempts ≤ 8) (hp : e.parked.length ≤ 4) :
    FieldsFit 0 64 e.firstFields := by
  have := e.kind.code_lt
  have := e.phase.code_lt
  have := e.phase.reasonCode_lt
  have := bit_lt e.converted
  have := e.line.isLt
  simp only [TrackerEntry.firstFields, FieldsFit]
  omega

theorem entryFirstWord_some (e : TrackerEntry) : entryFirstWord (some e) = layout e.firstFields := by
  simp [entryFirstWord, TrackerEntry.firstFields, EntryPhase.fields_eq, layout_cons, layout_nil, add_assoc]

/-- A way field, a victim field and a D-link tag field of a second word: nothing where it is absent. -/
@[simp] def wayFields : Option WayRef → List FieldAt
  | some w => [⟨0, 1, 1⟩, ⟨2, 2, w.way.val⟩, ⟨8, 7, w.set.val⟩]
  | none => []

@[simp] def victimFields : Option (Fin 4) → List FieldAt
  | some k => [⟨16, 1, 1⟩, ⟨18, 2, k.val⟩]
  | none => []

@[simp] def dTagFields : Option (Fin 32) → List FieldAt
  | some t => [⟨20, 1, 1⟩, ⟨24, 5, t.val⟩]
  | none => []

theorem wayFields_fit (o : Option WayRef) : FieldsFit 0 16 (wayFields o) := by
  cases o with
  | none => exact Nat.zero_le 16
  | some w =>
    have := w.way.isLt
    have := w.set.isLt
    simp only [wayFields, FieldsFit]
    omega

theorem victimFields_fit (o : Option (Fin 4)) : FieldsFit 16 20 (victimFields o) := by
  cases o with
  | none => exact show 16 ≤ 20 by decide
  | some k =>
    have := k.isLt
    simp only [victimFields, FieldsFit]
    omega

theorem dTagFields_fit (o : Option (Fin 32)) : FieldsFit 20 32 (dTagFields o) := by
  cases o with
  | none => exact show 20 ≤ 32 by decide
  | some t =>
    have := t.isLt
    simp only [dTagFields, FieldsFit]
    omega

theorem tagFields_eq (o : Option (Fin 32)) : tagFields o = layout (dTagFields o) := by
  cases o <;> simp [tagFields, dTagFields, layout_cons, layout_nil]

theorem epoch_fit (e : TrackerEntry) : FieldsFit 32 64 [⟨32, 16, e.epoch.toNat⟩] :=
  ⟨le_rfl, e.epoch.isLt, by simp only [FieldsFit]; decide⟩

theorem entrySecondWord_some (e : TrackerEntry) : entrySecondWord (some e) =
    layout (wayFields e.way ++ (victimFields e.victim ++ (dTagFields e.phase.tag? ++ [⟨32, 16, e.epoch.toNat⟩]))) := by
  simp only [entrySecondWord, tagFields_eq, layout_append, ← add_assoc]
  cases e.way <;> cases e.victim <;> simp [wayFields, victimFields, layout_cons, layout_nil, add_assoc]

/-- The four parts of the second word of an entry view, each read from its own fields. -/
theorem entrySecondWord_parts (e : TrackerEntry) {a m : Nat} (hword : a + m ≤ 64 := by decide) :
    (a + m ≤ 16 → bits (entrySecondWord (some e)) a m = bits (layout (wayFields e.way)) a m) ∧
    (16 ≤ a → a + m ≤ 20 → bits (entrySecondWord (some e)) a m = bits (layout (victimFields e.victim)) a m) ∧
    (20 ≤ a → a + m ≤ 32 → bits (entrySecondWord (some e)) a m = bits (layout (dTagFields e.phase.tag?)) a m) ∧
    (32 ≤ a → bits (entrySecondWord (some e)) a m = bits (layout [⟨32, 16, e.epoch.toNat⟩]) a m) := by
  have hway := wayFields_fit e.way
  have hvictim := victimFields_fit e.victim
  have htag := dTagFields_fit e.phase.tag?
  have hepoch := epoch_fit e
  have hlast := hepoch.append htag
  have hrest := hlast.append hvictim
  rw [entrySecondWord_some]
  refine ⟨fun h => bits_layout_left hrest h hword, fun h₁ h₂ => ?_, fun h₁ h₂ => ?_, fun h => ?_⟩
  · rw [bits_layout_right hway hrest h₁ hword, bits_layout_left hlast h₂ hword]
  · rw [bits_layout_right hway hrest (by omega) hword, bits_layout_right hvictim hlast h₁ hword,
      bits_layout_left hepoch h₂ hword]
  · rw [bits_layout_right hway hrest (by omega) hword, bits_layout_right hvictim hlast (by omega) hword,
      bits_layout_right htag hepoch h hword]

/-! ## Eviction slots (R176) -/

def EvictionSlot.firstFields (sl : EvictionSlot) : List FieldAt :=
  [⟨0, 3, sl.state.code⟩, ⟨4, 2, sl.kind.code⟩, ⟨6, 1, bit sl.stallReported⟩, ⟨8, 8, sl.attempts⟩, ⟨30, 34, sl.line.toNat⟩]

theorem EvictionSlot.firstFields_fit {sl : EvictionSlot} (ha : sl.attempts ≤ 255) : FieldsFit 0 64 sl.firstFields := by
  have := sl.state.code_lt
  have := sl.kind.code_lt
  have := bit_lt sl.stallReported
  have := sl.line.isLt
  simp only [EvictionSlot.firstFields, FieldsFit]
  omega

theorem slotFirstWord_some (sl : EvictionSlot) : slotFirstWord (some sl) = layout sl.firstFields := by
  simp [slotFirstWord, EvictionSlot.firstFields, layout_cons, layout_nil, add_assoc]

/-- Where a slot's line came from, and its owner: present while it is PARKED. -/
def EvictionSlot.originFields (sl : EvictionSlot) : List FieldAt :=
  [⟨0, 2, sl.origin.way.val⟩, ⟨2, 7, sl.origin.set.val⟩, ⟨9, 1, bit (sl.originState == .modified)⟩]

@[simp] def SlotState.ownerFields : SlotState → List FieldAt
  | .parked n => [⟨12, 1, 1⟩, ⟨16, 4, n.val⟩]
  | _ => []

theorem EvictionSlot.originFields_fit (sl : EvictionSlot) : FieldsFit 0 12 sl.originFields := by
  have := sl.origin.way.isLt
  have := sl.origin.set.isLt
  have := bit_lt (sl.originState == .modified)
  simp only [EvictionSlot.originFields, FieldsFit]
  omega

theorem SlotState.ownerFields_fit (x : SlotState) : FieldsFit 12 20 x.ownerFields := by
  cases x with
  | parked n =>
    have := n.isLt
    simp only [SlotState.ownerFields, FieldsFit]
    omega
  | _ => exact show 12 ≤ 20 by decide

theorem mask_fit (sl : EvictionSlot) : FieldsFit 32 64 [⟨32, 8, sl.mask.toNat⟩] :=
  ⟨le_rfl, sl.mask.isLt, show 40 ≤ 64 by decide⟩

theorem slotSecondWord_some (sl : EvictionSlot) : slotSecondWord (some sl) =
    layout (sl.originFields ++ (sl.state.ownerFields ++ (dTagFields sl.state.tag? ++ [⟨32, 8, sl.mask.toNat⟩]))) := by
  simp only [slotSecondWord, tagFields_eq, layout_append, ← add_assoc]
  cases sl.state <;>
    simp [SlotState.ownerFields, EvictionSlot.originFields, layout_cons, layout_nil, add_assoc]

/-- The four parts of the second word of a slot view, each read from its own fields. -/
theorem slotSecondWord_parts (sl : EvictionSlot) {a m : Nat} (hword : a + m ≤ 64 := by decide) :
    (a + m ≤ 12 → bits (slotSecondWord (some sl)) a m = bits (layout sl.originFields) a m) ∧
    (12 ≤ a → a + m ≤ 20 → bits (slotSecondWord (some sl)) a m = bits (layout sl.state.ownerFields) a m) ∧
    (20 ≤ a → a + m ≤ 32 → bits (slotSecondWord (some sl)) a m = bits (layout (dTagFields sl.state.tag?)) a m) ∧
    (32 ≤ a → bits (slotSecondWord (some sl)) a m = bits (layout [⟨32, 8, sl.mask.toNat⟩]) a m) := by
  have horigin := sl.originFields_fit
  have howner := sl.state.ownerFields_fit
  have htag := dTagFields_fit sl.state.tag?
  have hmask := mask_fit sl
  have hlast := hmask.append htag
  have hrest := hlast.append howner
  rw [slotSecondWord_some]
  refine ⟨fun h => bits_layout_left hrest h hword, fun h₁ h₂ => ?_, fun h₁ h₂ => ?_, fun h => ?_⟩
  · rw [bits_layout_right horigin hrest h₁ hword, bits_layout_left hlast h₂ hword]
  · rw [bits_layout_right horigin hrest (by omega) hword, bits_layout_right howner hlast h₁ hword,
      bits_layout_left hmask h₂ hword]
  · rw [bits_layout_right horigin hrest (by omega) hword, bits_layout_right howner hlast (by omega) hword,
      bits_layout_right htag hmask h hword]

/-! ## The engine view (R172) -/

/-- The fields every action shows: what it is, whose it is, and its own slots. -/
def Progress.headFields (p : Progress) : List FieldAt :=
  [⟨0, 4, p.action.code⟩, ⟨4, 4, p.phase.code⟩, ⟨8, 4, p.stream.val⟩, ⟨12, 6, p.tag.val⟩, ⟨20, 1, bit (p.own.contains 0)⟩,
    ⟨21, 1, bit (p.own.contains 1)⟩, ⟨22, 1, bit (p.own.contains 2)⟩, ⟨23, 1, bit (p.own.contains 3)⟩]

theorem Progress.headFields_fit (p : Progress) : FieldsFit 0 30 p.headFields := by
  have := p.action.code_lt
  have := p.phase.code_lt
  have := p.stream.isLt
  have := p.tag.isLt
  have := bit_lt (p.own.contains 0)
  have := bit_lt (p.own.contains 1)
  have := bit_lt (p.own.contains 2)
  have := bit_lt (p.own.contains 3)
  simp only [Progress.headFields, FieldsFit]
  omega

/-- The set and the way that the position fields show: the walk's own where R172 states one, else the free value. -/
def Progress.shownPosition (p : Progress) : Nat × Nat :=
  if p.phase = .firstPass ∨ p.phase = .drain ∨ p.walkWait ≠ .none then (p.position.set.val, p.position.way.val)
  else
    let v := Config.pastWalkPosition (BitVec.ofNat 4 p.phase.code) p.position.set p.position.way
    (v.1.toNat, v.2.toNat)

theorem Progress.shownPosition_lt (p : Progress) : p.shownPosition.1 < 128 ∧ p.shownPosition.2 < 4 := by
  unfold Progress.shownPosition
  split
  · exact ⟨p.position.set.isLt, p.position.way.isLt⟩
  · exact ⟨BitVec.isLt _, BitVec.isLt _⟩

theorem Progress.positionFields_eq (p : Progress) :
    p.positionFields = put 32 p.shownPosition.1 + put 40 p.shownPosition.2 := by
  unfold Progress.positionFields Progress.shownPosition
  split <;> rfl

/-- What a line action shows above bit 29, and what a walk or a commit shows there. -/
def Progress.tailFields (p : Progress) : List FieldAt :=
  if p.action.isLine then [⟨30, 34, p.line.toNat⟩]
  else [⟨32, 7, p.shownPosition.1⟩, ⟨40, 2, p.shownPosition.2⟩, ⟨48, 10, p.passedOver.length⟩]

theorem Progress.tailFields_fit {p : Progress} (hp : p.passedOver.length ≤ 512) : FieldsFit 30 64 p.tailFields := by
  have := p.shownPosition_lt
  have := p.line.isLt
  unfold Progress.tailFields
  split <;> simp only [FieldsFit] <;> omega

theorem engineWord_some (p : Progress) : engineWord (some p) = layout (p.headFields ++ p.tailFields) := by
  have hfour : List.finRange 4 = [0, 1, 2, 3] := by decide
  have htail : layout p.tailFields = if p.action.isLine then put 30 p.line.toNat
      else p.positionFields + put 48 p.passedOver.length := by
    unfold Progress.tailFields
    split <;> simp [layout_cons, layout_nil, p.positionFields_eq, add_assoc]
  rw [layout_append, htail]
  simp [engineWord, Progress.headFields, layout_cons, layout_nil, hfour, add_assoc]

theorem Action.isLine_iff (a : Action) : a.isLine = true ↔ a = .lineClean ∨ a = .linePurge ∨ a = .lineDrop := by
  cases a <;> simp [Action.isLine]

end Sys2Proof.Machine
end

section
/-! PROOFS. The statements about words, whole: the map of management reads, the packets of the D-link both ways, and the words of
every record, each from the lemmas about its parts above. -/

namespace Sys2Proof.Machine

-- Proofs are elaborated one after another: the threads of proofs that wait for each other do not fit the memory of the check.
set_option Elab.async false

open Sys2Proof (Word LineAddr ByteAddr LineData)

/-! ## Management reads -/

/-- Settles O27: the command by `Passes.admitMgmt`, the map unit by unit. -/
theorem mgmtReadReturnsTheValue : Obligations.MgmtReadReturnsTheValue := by
  refine ⟨fun s st q h => ?_, fun s => ?_⟩
  · show execMgmtRead s = _
    rw [execMgmtRead, whileRunning_high h.running, h.admitMgmt]
    rfl
  · refine ⟨?_, ?_, bits_put_bit s.lineStoreOn 63, bits_put_bitVec s.ulink.badFrames 48, rfl, fun st => ?_, fun k => ?_,
      ?_, fun k => ?_, s.faults.value_counts, FaultRecord.value_of_empty, fun f rest => FaultRecord.value_of_cons,
      s.storeWord_line, s.storeWord_entry, s.storeWord_slot, s.dlink.value_state, bits_put_bitVec s.dlink.timeout 56,
      bits_put_bitVec s.dlink.retryLimit 60, bits_put_bitVec s.dlink.badFrames 48, bits_put_bitVec s.dlink.staleReplies 48,
      bits_put_bitVec s.dlink.unknownTags 48, bits_put_bitVec s.dlink.timeouts 48⟩
    · show bits identityWord 0 16 = _ ∧ bits identityWord 16 16 = _ ∧ bits identityWord 32 8 = _ ∧
        bits identityWord 40 24 = _
      decide
    · show ∀ fv ∈ _, bits capacityWord _ _ = _
      decide
    · show (s.stream (Fin.ofNat 16 st.val)).word = _
      rw [Fin.ofNat_val_eq_self]
    · obtain ⟨hrange, hattribute⟩ := s.windows.value_staging k
      obtain ⟨harange, haattribute⟩ := s.windows.value_active k
      refine ⟨hrange, hattribute, fun hk => ?_, fun hk => ?_⟩
      · show s.windows.value _ = _ ∧ s.windows.value _ = _
        rw [harange, haattribute, WindowTable.activeView_of_lt _ hk]
        exact ⟨rfl, rfl⟩
      · show s.windows.value _ = _ ∧ s.windows.value _ = _
        rw [harange, haattribute, WindowTable.activeView_of_ge _ hk]
        decide
    · exact bits_put_bitVec s.windows.epoch 48
    · show (s.notice (Fin.ofNat 6 k.val)).word = _
      rw [Fin.ofNat_val_eq_self]

/-! ## The packets of the D-link -/

/-- The words of every packet to the home (section 10.3, R192): the first half of O11. -/
theorem bridgePacket_words (t : Fin 32) (l : LineAddr) (m : BitVec 8) (ws : LineData) (a : ByteAddr) (z : Size)
    (h : BitVec 8) (data : List Word) :
    (∃ w v, BridgePacket.hello.encode = [w, v] ∧ bits w 0 5 = 1 ∧ bits w 5 59 = 0 ∧ bits v 0 8 = 64 ∧ bits v 8 8 = 0 ∧
      bits v 16 16 = 0x0612 ∧ bits v 32 32 = 0) ∧
    (∃ w v rest, (BridgePacket.directWrite t a z data).encode = w :: v :: rest ∧ bits w 0 5 = 9 ∧ bits w 5 3 = 0 ∧
      bits w 8 5 = t.val ∧ bits w 13 3 = 0 ∧ bits w 16 3 = z.code ∧ bits w 19 45 = 0 ∧ bits v 0 40 = a.toNat ∧
      bits v 40 24 = 0 ∧ (z = .b64 → rest = data.take 8) ∧
      (z ≠ .b64 → ∃ x : Word, rest = [x] ∧ ∀ i < 64, x.getLsbD i =
        (decide (a.toNat % 8 ≤ i / 8 ∧ i / 8 < a.toNat % 8 + z.bytes) && (data.getD 0 0).getLsbD i))) ∧
    (∀ kp ∈ [(2, BridgePacket.getS t l), (3, .getO t l), (4, .upgrade t l), (6, .release t l)],
      ∃ w v, kp.2.encode = [w, v] ∧ bits w 0 5 = kp.1 ∧ bits w 5 3 = 0 ∧ bits w 8 5 = t.val ∧ bits w 13 51 = 0 ∧
        bits v 0 34 = l.toNat ∧ bits v 34 30 = 0) ∧
    (∀ kp ∈ [(5, BridgePacket.putback t l m ws), (7, .flush t l m ws)],
      ∃ w v, kp.2.encode = w :: v :: ws.toList ∧ bits w 0 5 = kp.1 ∧ bits w 5 3 = 0 ∧ bits w 8 5 = t.val ∧
        bits w 13 11 = 0 ∧ bits w 24 8 = m.toNat ∧ bits w 32 32 = 0 ∧ bits v 0 34 = l.toNat ∧ bits v 34 30 = 0) ∧
    (∃ w v, (BridgePacket.directRead t a z).encode = [w, v] ∧ bits w 0 5 = 8 ∧ bits w 5 3 = 0 ∧ bits w 8 5 = t.val ∧
      bits w 13 3 = 0 ∧ bits w 16 3 = z.code ∧ bits w 19 45 = 0 ∧ bits v 0 40 = a.toNat ∧ bits v 40 24 = 0) ∧
    ∀ io ∈ [(1, RecallOutcome.notHeld), (2, .clean), (3, .data m ws)],
      ∃ w v, (BridgePacket.recallReply h l io.2).encode = w :: v :: (if io.1 = 3 then ws.toList else []) ∧
        bits w 0 5 = 0x0A ∧ bits w 5 3 = 0 ∧ bits w 8 8 = h.toNat ∧ bits w 16 4 = 0 ∧ bits w 20 2 = io.1 ∧
        bits w 22 2 = 0 ∧ bits w 24 8 = (if io.1 = 3 then m.toNat else 0) ∧ bits w 32 32 = 0 ∧
        bits v 0 34 = l.toNat ∧ bits v 34 30 = 0 := by
  obtain ⟨hline, hlineHigh⟩ := lineWord_fields l
  obtain ⟨haddr, haddrHigh⟩ := bits_put_bitVec a 24
  have plain (kind : Nat) (hkind : kind < 32) : ∃ w v, [requestHeader kind t, lineWord l] = [w, v] ∧ bits w 0 5 = kind ∧
      bits w 5 3 = 0 ∧ bits w 8 5 = t.val ∧ bits w 13 51 = 0 ∧ bits v 0 34 = l.toNat ∧ bits v 34 30 = 0 := by
    obtain ⟨h0, h5, h8, h13⟩ := requestHeader_fields hkind t
    exact ⟨_, _, rfl, h0, h5, h8, h13, hline, hlineHigh⟩
  have masked (kind : Nat) (hkind : kind < 32) : ∃ w v,
      (requestHeader kind t + put 24 m.toNat) :: lineWord l :: ws.toList = w :: v :: ws.toList ∧ bits w 0 5 = kind ∧
      bits w 5 3 = 0 ∧ bits w 8 5 = t.val ∧ bits w 13 11 = 0 ∧ bits w 24 8 = m.toNat ∧ bits w 32 32 = 0 ∧
      bits v 0 34 = l.toNat ∧ bits v 34 30 = 0 := by
    obtain ⟨h0, h5, h8, h13, h24, h32⟩ := maskHeader_fields hkind t m
    exact ⟨_, _, rfl, h0, h5, h8, h13, h24, h32, hline, hlineHigh⟩
  have recallReply (outcome mask : Nat) (ho : outcome < 4) (hm : mask < 256) (o : RecallOutcome) (rest : List Word)
      (hencode : (BridgePacket.recallReply h l o).encode =
        (put 0 0x0A + put 8 h.toNat + put 20 outcome + put 24 mask) :: lineWord l :: rest) :
      ∃ w v, (BridgePacket.recallReply h l o).encode = w :: v :: rest ∧ bits w 0 5 = 0x0A ∧ bits w 5 3 = 0 ∧
        bits w 8 8 = h.toNat ∧ bits w 16 4 = 0 ∧ bits w 20 2 = outcome ∧ bits w 22 2 = 0 ∧ bits w 24 8 = mask ∧
        bits w 32 32 = 0 ∧ bits v 0 34 = l.toNat ∧ bits v 34 30 = 0 := by
    obtain ⟨h0, h5, h8, h16, h20, h22, h24, h32⟩ := recallHeader_fields h ho hm
    exact ⟨_, _, hencode, h0, h5, h8, h16, h20, h22, h24, h32, hline, hlineHigh⟩
  refine ⟨⟨_, _, rfl, by decide⟩, ?_, ?_, ?_, ?_, ?_⟩
  · obtain ⟨h0, h5, h8, h13, h16, h19⟩ := directHeader_fields (show 9 < 32 by decide) t z
    refine ⟨_, _, _, rfl, h0, h5, h8, h13, h16, h19, haddr, haddrHigh, fun hz => ?_, fun hz => ?_⟩
    · rw [hz]
      rfl
    · refine ⟨data.getD 0 0 &&& laneMask a z, ?_, fun i hi => ?_⟩
      · cases z with
        | b64 => exact absurd rfl hz
        | _ => rfl
      · rw [BitVec.getLsbD_and, laneMask_getLsbD a z hi, Bool.and_comm]
  · simp only [List.forall_mem_cons, List.not_mem_nil, false_imp_iff, implies_true, and_true]
    exact ⟨plain 2 (by decide), plain 3 (by decide), plain 4 (by decide), plain 6 (by decide)⟩
  · simp only [List.forall_mem_cons, List.not_mem_nil, false_imp_iff, implies_true, and_true]
    exact ⟨masked 5 (by decide), masked 7 (by decide)⟩
  · obtain ⟨h0, h5, h8, h13, h16, h19⟩ := directHeader_fields (show 8 < 32 by decide) t z
    exact ⟨_, _, rfl, h0, h5, h8, h13, h16, h19, haddr, haddrHigh⟩
  · simp only [List.forall_mem_cons, List.not_mem_nil, false_imp_iff, implies_true, and_true]
    exact ⟨recallReply 1 0 (by decide) (by decide) .notHeld [] (by simp [BridgePacket.encode, put_zero]),
      recallReply 2 0 (by decide) (by decide) .clean [] (by simp [BridgePacket.encode, put_zero]),
      recallReply 3 m.toNat (by decide) m.isLt (.data m ws) ws.toList rfl⟩

/-- The reading of packets from the home (section 10.3, R192): the second half of O11. -/
theorem homePacket_reading (h v : Word) (ws : LineData) (more : List Word) (t : Fin 32) (l : LineAddr)
    (htag : bits h 8 5 = t.val) (hline : bits v 0 34 = l.toNat) :
    let kind := bits h 0 5
    let size := bits h 16 3
    let homeTag : BitVec 8 := BitVec.ofNat 8 (bits h 8 8)
    let taken (words : List Word) : Option HomePacket := homePacket ⟨true, h :: words⟩
    (kind = 0x11 → taken (v :: more) =
      some (.helloAck (BitVec.ofNat 8 (bits v 0 8)) (BitVec.ofNat 16 (bits v 16 16)))) ∧
    (kind = 0x12 → taken (v :: (ws.toList ++ more)) = some (.dataS t l ws)) ∧
    (kind = 0x13 → taken (v :: (ws.toList ++ more)) = some (.dataO t l ws)) ∧
    (kind = 0x14 → taken (v :: more) = some (.grant t l)) ∧
    (kind = 0x15 → taken more = some (.done t)) ∧
    (kind = 0x16 → size ≤ 3 → taken (v :: more) = some (.wordData t size [v])) ∧
    (kind = 0x16 → size = 4 → taken (ws.toList ++ more) = some (.wordData t size ws.toList)) ∧
    (kind = 0x16 → 5 ≤ size → ∃ n, (n = 1 ∨ n = 8) ∧
      taken (ws.toList ++ more) = some (.wordData t size (ws.toList.take n))) ∧
    (kind = 0x17 → taken more = some (.refused t)) ∧
    (kind = 0x18 → taken more = some (.error t
      (if bits h 22 2 = 1 then .poisoned else if bits h 22 2 = 2 then .outOfRange else .protocol))) ∧
    (kind = 0x19 → taken (v :: more) = some (.recallShare homeTag l)) ∧
    (kind = 0x1A → taken (v :: more) = some (.recallDrop homeTag l)) ∧
    (∀ kn ∈ [(0x11, 1), (0x12, 9), (0x13, 9), (0x14, 1), (0x16, if size = 4 then 8 else 1), (0x19, 1), (0x1A, 1)],
      kind = kn.1 → more.length < kn.2 → taken more = none) ∧
    (kind < 0x11 ∨ 0x1A < kind → taken more = none) ∧
    homePacket ⟨false, more⟩ = none ∧ homePacket ⟨true, []⟩ = none := by
  intro kind size homeTag taken
  have htag' : (field h 8 5).toFin = t := Fin.ext ((field_toNat h 8 5).trans htag)
  have hline' : lineOfWord v = l := field_eq_of_bits hline
  have words {k n : Nat} (hk : kind = k) (hn : homeWords k (field h 16 3) = some n) :
      homeWords (bits h 0 5) (field h 16 3) = some n := by
    rw [show bits h 0 5 = k from hk]
    exact hn
  have hsize : (field h 16 3).toNat = size := field_toNat h 16 3
  have hwordData (hk : kind = 0x16) := words hk (homeWords_wordData (field h 16 3))
  have hlen : ws.toList.length = 8 := ws.length_toList
  refine ⟨fun hk => ?_, fun hk => ?_, fun hk => ?_, fun hk => ?_, fun hk => ?_, fun hk hz => ?_, fun hk hz => ?_,
    fun hk hz => ?_, fun hk => ?_, fun hk => ?_, fun hk => ?_, fun hk => ?_, ?_, fun hk => ?_, rfl, rfl⟩
  · refine (homePacket_oneWord (words hk rfl)).trans ?_
    simp only [homePacketOf, show bits h 0 5 = 0x11 from hk]
    rfl
  · refine (homePacket_lineData (words hk rfl)).trans ?_
    simp only [homePacketOf, show bits h 0 5 = 0x12 from hk, htag', List.getD_cons_zero, hline', List.drop_one,
      List.tail_cons, lineOfWords_toList]
  · refine (homePacket_lineData (words hk rfl)).trans ?_
    simp only [homePacketOf, show bits h 0 5 = 0x13 from hk, htag', List.getD_cons_zero, hline', List.drop_one,
      List.tail_cons, lineOfWords_toList]
  · refine (homePacket_oneWord (words hk rfl)).trans ?_
    simp only [homePacketOf, show bits h 0 5 = 0x14 from hk, htag', List.getD_cons_zero, hline']
  · refine (homePacket_noWord (words hk rfl)).trans ?_
    simp only [homePacketOf, show bits h 0 5 = 0x15 from hk, htag']
  · have hn := hwordData hk
    rw [hsize, if_pos hz] at hn
    refine (homePacket_oneWord hn).trans ?_
    simp only [homePacketOf, show bits h 0 5 = 0x16 from hk, htag']
    rfl
  · have hn := hwordData hk
    rw [hsize, if_neg (by omega), if_pos hz] at hn
    refine (homePacket_taken hn (by simp)).trans ?_
    simp only [homePacketOf, show bits h 0 5 = 0x16 from hk, htag', List.take_left' hlen]
    rfl
  · have hn := hwordData hk
    rw [hsize, if_neg (by omega), if_neg (by omega)] at hn
    have hcount : (if Config.wordDataFillsLine (field h 16 3) then 8 else 1) = 1 ∨
        (if Config.wordDataFillsLine (field h 16 3) then 8 else 1) = 8 := by
      split
      · exact Or.inr rfl
      · exact Or.inl rfl
    refine ⟨_, hcount, (homePacket_taken hn ?_).trans ?_⟩
    · rw [List.length_append, hlen]
      omega
    · have htake := List.take_append_of_le_length (l₁ := ws.toList) (l₂ := more)
        (i := if Config.wordDataFillsLine (field h 16 3) then 8 else 1) (by omega)
      simp only [homePacketOf, show bits h 0 5 = 0x16 from hk, htag', htake]
      rfl
  · refine (homePacket_noWord (words hk rfl)).trans ?_
    simp only [homePacketOf, show bits h 0 5 = 0x17 from hk, htag']
  · refine (homePacket_noWord (words hk rfl)).trans ?_
    simp only [homePacketOf, show bits h 0 5 = 0x18 from hk, htag', HomeReason.ofCode_eq]
  · refine (homePacket_oneWord (words hk rfl)).trans ?_
    simp only [homePacketOf, show bits h 0 5 = 0x19 from hk, List.getD_cons_zero, hline']
    rfl
  · refine (homePacket_oneWord (words hk rfl)).trans ?_
    simp only [homePacketOf, show bits h 0 5 = 0x1A from hk, List.getD_cons_zero, hline']
    rfl
  · simp only [List.forall_mem_cons, List.not_mem_nil, false_imp_iff, implies_true, and_true]
    refine ⟨fun hk => homePacket_short (words hk rfl), fun hk => homePacket_short (words hk rfl),
      fun hk => homePacket_short (words hk rfl), fun hk => homePacket_short (words hk rfl), fun hk hshort => ?_,
      fun hk => homePacket_short (words hk rfl), fun hk => homePacket_short (words hk rfl)⟩
    refine homePacket_short (hwordData hk) ?_
    rw [hsize]
    split_ifs at hshort ⊢ <;> omega
  · exact homePacket_unknown (homeWords_unknown hk _)

/-- Settles O11. -/
theorem bridgePacketLayout : Obligations.BridgePacketLayout :=
  ⟨by decide, bridgePacket_words, homePacket_reading⟩

/-! ## The views of entries, slots and the engine, field by field -/

theorem TrackerEntry.word_fields (e : TrackerEntry) (ha : e.attempts ≤ 8) (hp : e.parked.length ≤ 4) :
    let w := entryFirstWord (some e)
    let v := entrySecondWord (some e)
    bits w 0 1 = 1 ∧ bits w 1 3 = e.kind.code ∧ bits w 6 2 = 0 ∧ bits w 11 1 = 0 ∧ bits w 12 4 = e.attempts ∧
    bits w 16 1 = bit e.converted ∧ bits w 17 3 = 0 ∧ bits w 20 3 = e.parked.length ∧ bits w 23 7 = 0 ∧
    bits w 30 34 = e.line.toNat ∧
    (∀ why, e.phase = .waiting why → bits w 4 2 = 1 ∧ bits w 8 3 = why.code ∧ bits v 20 12 = 0) ∧
    (∀ t, e.phase = .issued t → bits w 4 2 = 2 ∧ bits w 8 3 = 0 ∧ bits v 20 1 = 1 ∧ bits v 21 3 = 0 ∧ bits v 24 5 = t.val ∧
      bits v 29 3 = 0) ∧
    (e.phase = .ending → bits w 4 2 = 3 ∧ bits w 8 3 = 0 ∧ bits v 20 12 = 0) ∧
    (e.way = none → bits v 0 16 = 0) ∧
    (∀ x, e.way = some x → bits v 0 1 = 1 ∧ bits v 1 1 = 0 ∧ bits v 2 2 = x.way.val ∧ bits v 4 4 = 0 ∧
      bits v 8 7 = x.set.val ∧ bits v 15 1 = 0) ∧
    (e.victim = none → bits v 16 4 = 0) ∧
    (∀ k, e.victim = some k → bits v 16 1 = 1 ∧ bits v 17 1 = 0 ∧ bits v 18 2 = k.val) ∧
    bits v 32 16 = e.epoch.toNat ∧ bits v 48 16 = 0 := by
  intro w v
  have hfit := TrackerEntry.firstFields_fit ha hp
  have hw : w = layout e.firstFields := entryFirstWord_some e
  have hway {a m : Nat} (h : a + m ≤ 16 := by decide) : bits v a m = bits (layout (wayFields e.way)) a m :=
    (entrySecondWord_parts e (h.trans (by decide))).1 h
  have hvictim {a m : Nat} (h₁ : 16 ≤ a := by decide) (h₂ : a + m ≤ 20 := by decide) :
      bits v a m = bits (layout (victimFields e.victim)) a m :=
    (entrySecondWord_parts e (h₂.trans (by decide))).2.1 h₁ h₂
  have htag {a m : Nat} (h₁ : 20 ≤ a := by decide) (h₂ : a + m ≤ 32 := by decide) :
      bits v a m = bits (layout (dTagFields e.phase.tag?)) a m :=
    (entrySecondWord_parts e (h₂.trans (by decide))).2.2.1 h₁ h₂
  have hepoch {a m : Nat} (h₁ : 32 ≤ a := by decide) (h₂ : a + m ≤ 64 := by decide) :
      bits v a m = bits (layout [⟨32, 16, e.epoch.toNat⟩]) a m := (entrySecondWord_parts e h₂).2.2.2 h₁
  have hphase : bits w 4 2 = e.phase.code ∧ bits w 8 3 = e.phase.reasonCode := by
    rw [hw]
    exact ⟨bits_layout hfit rfl, bits_layout hfit rfl⟩
  refine ⟨?_, ?_, ?_, ?_, ?_, ?_, ?_, ?_, ?_, ?_, fun why h => ?_, fun t h => ?_, fun h => ?_, fun h => ?_, fun x h => ?_,
    fun h => ?_, fun k h => ?_, ?_, ?_⟩
  iterate 10 · rw [hw]; exact bits_layout hfit rfl
  · rw [hphase.1, hphase.2, htag, h]
    exact ⟨rfl, rfl, bits_layout_nil _ _⟩
  · have hfit := dTagFields_fit (some t)
    rw [hphase.1, hphase.2, htag, htag, htag, htag, h]
    exact ⟨rfl, rfl, bits_layout hfit rfl, bits_layout hfit rfl, bits_layout hfit rfl, bits_layout hfit rfl⟩
  · rw [hphase.1, hphase.2, htag, h]
    exact ⟨rfl, rfl, bits_layout_nil _ _⟩
  · rw [hway, h]
    exact bits_layout_nil _ _
  · have hfit := wayFields_fit (some x)
    rw [hway, hway, hway, hway, hway, hway, h]
    exact ⟨bits_layout hfit rfl, bits_layout hfit rfl, bits_layout hfit rfl, bits_layout hfit rfl, bits_layout hfit rfl,
      bits_layout hfit rfl⟩
  · rw [hvictim, h]
    exact bits_layout_nil _ _
  · have hfit := victimFields_fit (some k)
    rw [hvictim, hvictim, hvictim, h]
    exact ⟨bits_layout hfit rfl, bits_layout hfit rfl, bits_layout hfit rfl⟩
  · rw [hepoch]
    exact bits_layout (epoch_fit e) rfl
  · rw [hepoch]
    exact bits_layout (epoch_fit e) rfl

theorem EvictionSlot.word_fields (sl : EvictionSlot) (ha : sl.attempts ≤ 255) :
    let w := slotFirstWord (some sl)
    let v := slotSecondWord (some sl)
    let tagged (t : Fin 32) : Prop := bits v 20 1 = 1 ∧ bits v 21 3 = 0 ∧ bits v 24 5 = t.val ∧ bits v 29 3 = 0
    bits w 3 1 = 0 ∧ bits w 4 2 = sl.kind.code ∧ bits w 6 1 = bit sl.stallReported ∧ bits w 7 1 = 0 ∧
    bits w 8 8 = sl.attempts ∧ bits w 16 14 = 0 ∧ bits w 30 34 = sl.line.toNat ∧
    bits v 0 2 = sl.origin.way.val ∧ bits v 2 7 = sl.origin.set.val ∧
    bits v 9 1 = (if sl.originState = .modified then 1 else 0) ∧ bits v 10 2 = 0 ∧ bits v 13 3 = 0 ∧
    bits v 32 8 = sl.mask.toNat ∧ bits v 40 24 = 0 ∧
    (∀ n, sl.state = .parked n → bits w 0 3 = 1 ∧ bits v 12 1 = 1 ∧ bits v 16 4 = n.val ∧ bits v 20 12 = 0) ∧
    (sl.state = .queued → bits w 0 3 = 2 ∧ bits v 12 8 = 0 ∧ bits v 20 12 = 0) ∧
    (∀ t, sl.state = .sending t → bits w 0 3 = 3 ∧ bits v 12 8 = 0 ∧ tagged t) ∧
    (∀ t, sl.state = .answered t → bits w 0 3 = 4 ∧ bits v 12 8 = 0 ∧ tagged t) := by
  intro w v tagged
  have hfit := EvictionSlot.firstFields_fit ha
  have hw : w = layout sl.firstFields := slotFirstWord_some sl
  have horigin {a m : Nat} (h : a + m ≤ 12 := by decide) : bits v a m = bits (layout sl.originFields) a m :=
    (slotSecondWord_parts sl (h.trans (by decide))).1 h
  have howner {a m : Nat} (h₁ : 12 ≤ a := by decide) (h₂ : a + m ≤ 20 := by decide) :
      bits v a m = bits (layout sl.state.ownerFields) a m :=
    (slotSecondWord_parts sl (h₂.trans (by decide))).2.1 h₁ h₂
  have htag {a m : Nat} (h₁ : 20 ≤ a := by decide) (h₂ : a + m ≤ 32 := by decide) :
      bits v a m = bits (layout (dTagFields sl.state.tag?)) a m :=
    (slotSecondWord_parts sl (h₂.trans (by decide))).2.2.1 h₁ h₂
  have hmask {a m : Nat} (h₁ : 32 ≤ a := by decide) (h₂ : a + m ≤ 64 := by decide) :
      bits v a m = bits (layout [⟨32, 8, sl.mask.toNat⟩]) a m := (slotSecondWord_parts sl h₂).2.2.2 h₁
  have hstate : bits w 0 3 = sl.state.code := by
    rw [hw]
    exact bits_layout hfit rfl
  have htagged (t : Fin 32) (h : sl.state.tag? = some t) : tagged t := by
    have hfit := dTagFields_fit (some t)
    show bits v 20 1 = 1 ∧ bits v 21 3 = 0 ∧ bits v 24 5 = t.val ∧ bits v 29 3 = 0
    rw [htag, htag, htag, htag, h]
    exact ⟨bits_layout hfit rfl, bits_layout hfit rfl, bits_layout hfit rfl, bits_layout hfit rfl⟩
  refine ⟨?_, ?_, ?_, ?_, ?_, ?_, ?_, ?_, ?_, ?_, ?_, ?_, ?_, ?_, fun n h => ?_, fun h => ?_, fun t h => ?_, fun t h => ?_⟩
  iterate 7 · rw [hw]; exact bits_layout hfit rfl
  iterate 2 · rw [horigin]; exact bits_layout sl.originFields_fit rfl
  · rw [horigin]
    refine (bits_layout sl.originFields_fit rfl).trans ?_
    show bit (sl.originState == .modified) = _
    simp [bit]
  · rw [horigin]
    exact bits_layout sl.originFields_fit rfl
  · rw [howner]
    cases h : sl.state with
    | parked n => exact bits_layout (SlotState.ownerFields_fit (.parked n)) rfl
    | _ => exact bits_layout_nil _ _
  iterate 2 · rw [hmask]; exact bits_layout (mask_fit sl) rfl
  · have hfit := SlotState.ownerFields_fit (.parked n)
    rw [hstate, howner, howner, htag, h]
    exact ⟨rfl, bits_layout hfit rfl, bits_layout hfit rfl, bits_layout_nil _ _⟩
  · rw [hstate, howner, htag, h]
    exact ⟨rfl, bits_layout_nil _ _, bits_layout_nil _ _⟩
  · refine ⟨?_, ?_, htagged t (by rw [h]; rfl)⟩
    · rw [hstate, h]
      rfl
    · rw [howner, h]
      exact bits_layout_nil _ _
  · refine ⟨?_, ?_, htagged t (by rw [h]; rfl)⟩
    · rw [hstate, h]
      rfl
    · rw [howner, h]
      exact bits_layout_nil _ _

theorem Progress.word_fields (p : Progress) (hp : p.passedOver.length ≤ 512) :
    let w := engineWord (some p)
    let isLine : Prop := p.action = .lineClean ∨ p.action = .linePurge ∨ p.action = .lineDrop
    bits w 0 4 = p.action.code ∧ bits w 4 4 = p.phase.code ∧ bits w 8 4 = p.stream.val ∧ bits w 12 6 = p.tag.val ∧
    bits w 18 2 = 0 ∧ (∀ k : Fin 4, bits w (20 + k.val) 1 = if k ∈ p.own then 1 else 0) ∧ bits w 24 6 = 0 ∧
    (isLine → bits w 30 34 = p.line.toNat) ∧
    (¬ isLine → bits w 30 2 = 0 ∧ bits w 39 1 = 0 ∧ bits w 42 6 = 0 ∧ bits w 48 10 = p.passedOver.length ∧
      bits w 58 6 = 0 ∧
      (p.phase = .firstPass ∨ p.phase = .drain ∨ p.walkWait ≠ .none →
        bits w 32 7 = p.position.set.val ∧ bits w 40 2 = p.position.way.val)) := by
  intro w isLine
  have hheadFit := p.headFields_fit
  have htailFit := Progress.tailFields_fit hp
  have hw : w = layout (p.headFields ++ p.tailFields) := engineWord_some p
  have hhead {a m : Nat} (h : a + m ≤ 30 := by decide) : bits w a m = bits (layout p.headFields) a m := by
    rw [hw]
    exact bits_layout_left htailFit h (h.trans (by decide))
  have htail {a m : Nat} (h₁ : 30 ≤ a := by decide) (h₂ : a + m ≤ 64 := by decide) :
      bits w a m = bits (layout p.tailFields) a m := by
    rw [hw]
    exact bits_layout_right hheadFit htailFit h₁ h₂
  refine ⟨?_, ?_, ?_, ?_, ?_, fun k => ?_, ?_, fun hline => ?_, fun hwalk => ?_⟩
  iterate 5 · rw [hhead]; exact bits_layout hheadFit rfl
  · have hown : bits w (20 + k.val) 1 = bit (p.own.contains k) := by
      rw [hhead (by omega)]
      fin_cases k <;> exact bits_layout hheadFit rfl
    rw [hown]
    simp [bit]
  · rw [hhead]
    exact bits_layout hheadFit rfl
  · have hfields : p.tailFields = [⟨30, 34, p.line.toNat⟩] := if_pos (p.action.isLine_iff.2 hline)
    rw [hfields] at htail htailFit
    rw [htail]
    exact bits_layout htailFit rfl
  · have hfields : p.tailFields =
        [⟨32, 7, p.shownPosition.1⟩, ⟨40, 2, p.shownPosition.2⟩, ⟨48, 10, p.passedOver.length⟩] :=
      if_neg fun h => hwalk (p.action.isLine_iff.1 h)
    rw [hfields] at htail htailFit
    rw [htail, htail, htail, htail, htail, htail, htail]
    refine ⟨bits_layout htailFit rfl, bits_layout htailFit rfl, bits_layout htailFit rfl, bits_layout htailFit rfl,
      bits_layout htailFit rfl, fun hstated => ?_⟩
    have hshown : p.shownPosition = (p.position.set.val, p.position.way.val) := if_pos hstated
    rw [hshown] at htailFit ⊢
    exact ⟨bits_layout htailFit rfl, bits_layout htailFit rfl⟩

/-- Settles O28: each record's word is a list of fields, and the codes are read off the tables. -/
theorem recordWordsCarryTheirFields : Obligations.RecordWordsCarryTheirFields := by
  refine ⟨StreamRecord.word_fields, WindowRecord.word_fields, NoticeSource.word_fields, fun r => ?_, FaultEntry.word_fields,
    ⟨rfl, rfl, TrackerEntry.word_fields⟩, ⟨rfl, rfl, EvictionSlot.word_fields⟩, ⟨rfl, Progress.word_fields⟩, by decide,
    by decide, by decide, by decide, by decide, by decide, by decide, by decide, by decide, by decide, by decide, by decide⟩
  obtain ⟨htag, h27, hstate, h30, hmarks, h42, h48, hcode, hnumber⟩ := r.word_fields
  refine ⟨htag, h27, hstate, h30, hmarks, h42, h48, fun h => ?_, fun n h => ?_, fun k h => ?_⟩ <;>
    · rw [hcode, hnumber, h]
      exact ⟨rfl, rfl⟩

end Sys2Proof.Machine
end

section
/-! PROOFS. The checks of admission (chapter 5, sections 5.3 and 5.4; section 10.1): the first failing check, the form check,
the fields and the row of a request frame, and what the receiver keeps of one. -/

namespace Sys2Proof.Machine

-- Proofs are elaborated one after another: the threads of proofs that wait for each other do not fit the memory of the check.
set_option Elab.async false

open Sys2Proof (Word Frame)

/-! ## The first failing check (R110, R111) -/

/-- The checks in their order, each with the status that its failure names (R111). -/
theorem State.commonCheck_eq_some_iff (s : State) (st : Fin 16) (q : QueuedFrame) (x : Status) :
    s.commonCheck st q = some x ↔
      ((s.stream st).isOpen = false ∧ x = .streamClosed ∨
        (s.stream st).isOpen = true ∧ q.formOk = false ∧ x = .malformed ∨
        (s.stream st).isOpen = true ∧ q.formOk = true ∧ q.tag ∈ (s.stream st).outstanding ∧ x = .duplicateTag ∨
        (s.stream st).isOpen = true ∧ q.formOk = true ∧ q.tag ∉ (s.stream st).outstanding ∧ q.isMgmt = true ∧
          (s.stream st).manage = false ∧ x = .denied) := by
  unfold State.commonCheck
  dsimp only
  cases (s.stream st).isOpen
  case false => simp [@eq_comm _ _ x]
  cases q.formOk
  case false => simp [@eq_comm _ _ x]
  by_cases htag : q.tag ∈ (s.stream st).outstanding
  · simp [htag, @eq_comm _ _ x]
  · simp [htag, @eq_comm _ _ x, and_assoc]

/-- A head that fails a check is taken and answered under its own row (R110). -/
theorem State.Selects.exec_refused {s : State} {row : HeadRow} {st : Fin 16} {q : QueuedFrame} {x : Status}
    (h : s.Selects row st q) (hx : s.commonCheck st q = some x) :
    exec row.command s = .next (s.answered st q x []) := by
  obtain ⟨f, hexec, hrefuse⟩ := exec_headRow h.running row
  rw [hexec, State.admitting, h.selected]
  dsimp only
  rw [if_pos h.row, hrefuse st q x hx]
  rfl

/-! ## The map of units, indices and actions (section 8.3) -/

/-- The index exists in its unit. -/
def IndexExists (unit index : Nat) : Prop :=
  unit = 0 ∧ index ≤ 4 ∨ unit = 1 ∧ index ≤ 15 ∨
    unit = 2 ∧ (index ≤ 23 ∨ 32 ≤ index ∧ index ≤ 55 ∨ 256 ≤ index ∧ index ≤ 279 ∨ 288 ≤ index ∧ index ≤ 311 ∨
      index = 512) ∨
    unit = 3 ∧ index ≤ 5 ∨ unit = 4 ∧ index ≤ 2 ∨
    unit = 5 ∧ (index ≤ 511 ∨ 1024 ≤ index ∧ index ≤ 1035 ∨ 1040 ≤ index ∧ index ≤ 1043 ∨
      1088 ≤ index ∧ index ≤ 1099 ∨ 1104 ≤ index ∧ index ≤ 1107) ∨
    unit = 6 ∧ index ≤ 6

/-- The index is one that a MGMT-WRITE replaces. -/
def IndexWritten (unit index : Nat) : Prop :=
  unit = 0 ∧ index = 2 ∨ unit = 1 ∧ index ≤ 15 ∨
    unit = 2 ∧ (index ≤ 23 ∨ 32 ≤ index ∧ index ≤ 55) ∨ unit = 3 ∧ index ≤ 5 ∨ unit = 6 ∧ (index = 1 ∨ index = 2)

/-- The actions of every unit, with their rows. -/
def actionRows : List ((Nat × Nat) × HeadRow) :=
  [((0, 1), .bridgeReset), ((2, 1), .commitWindows), ((2, 2), .stagingReload), ((3, 1), .noticeClear), ((4, 1), .faultTake),
    ((5, 1), .lineClean), ((5, 2), .linePurge), ((5, 3), .lineDrop), ((5, 4), .storeClean), ((5, 5), .storePurge),
    ((6, 1), .dlinkRetrain)]

theorem indexExists_iff (unit index : Nat) : indexExists unit index = true ↔ IndexExists unit index := by
  unfold indexExists IndexExists
  split
  case h_8 => simp_all
  all_goals simp [or_assoc]

theorem ite_ne_malformed {c : Prop} [Decidable c] {row : HeadRow} (h : row ≠ .malformedRefusal) :
    (if c then row else .malformedRefusal) ≠ .malformedRefusal ↔ c := by
  by_cases hc : c <;> simp [hc, h]

theorem writeRow_ne_malformed_iff (unit index : Nat) :
    writeRow unit index ≠ .malformedRefusal ↔ IndexWritten unit index := by
  unfold writeRow IndexWritten
  split
  case h_6 => simp_all
  all_goals rw [ite_ne_malformed (by decide)]; simp

/-- An action that the unit has is selected under its own row. -/
theorem actRow_of_mem {unit action : Nat} {a : (Nat × Nat) × HeadRow} (ha : a ∈ actionRows) (hname : a.1 = (unit, action)) :
    actRow unit action = a.2 := by
  have hall : ∀ a ∈ actionRows, actRow a.1.1 a.1.2 = a.2 := by decide
  have hrow := hall a ha
  rwa [hname] at hrow

theorem actRow_of_not_mem {unit action : Nat} (h : ∀ a ∈ actionRows, a.1 ≠ (unit, action)) :
    actRow unit action = .malformedRefusal := by
  unfold actRow
  split
  case h_12 => rfl
  all_goals simp [actionRows] at h

theorem actRow_ne_malformed_iff (unit action : Nat) :
    actRow unit action ≠ .malformedRefusal ↔ (unit, action) ∈ actionRows.map (·.1) := by
  constructor
  · intro hrow
    by_contra hnot
    refine hrow (actRow_of_not_mem fun a ha hname => hnot ?_)
    exact List.mem_map.2 ⟨a, ha, hname⟩
  · intro hmem
    obtain ⟨a, ha, hname⟩ := List.mem_map.1 hmem
    have hall : ∀ a ∈ actionRows, a.2 ≠ .malformedRefusal := by decide
    rw [actRow_of_mem ha hname]
    exact hall a ha

/-! ## The row of a head (log entry 20) -/

theorem QueuedFrame.isMgmt_iff (q : QueuedFrame) : q.isMgmt = true ↔ q.kind = 3 ∨ q.kind = 4 ∨ q.kind = 5 := by
  simp [QueuedFrame.isMgmt, or_assoc]

/-- The row by the kind code. -/
theorem QueuedFrame.row_of_kind (q : QueuedFrame) :
    (q.kind = 1 → q.row = .read) ∧ (q.kind = 2 → q.row = .write) ∧
      (q.kind = 3 → q.row = if indexExists q.unit q.index then .mgmtRead else .malformedRefusal) ∧
      (q.kind = 4 → q.row = writeRow q.unit q.index) ∧ (q.kind = 5 → q.row = actRow q.unit q.action) ∧
      (q.kind = 0 ∨ 6 ≤ q.kind → q.row = .malformedRefusal) := by
  unfold QueuedFrame.row
  refine ⟨fun h => by rw [h]; rfl, fun h => by rw [h]; rfl, fun h => by rw [h]; rfl, fun h => by rw [h]; rfl,
    fun h => by rw [h]; rfl, fun hkind => ?_⟩
  split
  case h_6 => rfl
  all_goals omega

/-! ## The form check (R111, R167, R190) -/

/-- The reserved fields that every request kind shares, and the length (R190). -/
def QueuedFrame.SharedFormOk (q : QueuedFrame) : Prop :=
  bits q.word0 14 2 = 0 ∧ bits q.word0 19 5 = 0 ∧ q.lengthWrong = false

theorem QueuedFrame.mgmtFormOk_iff (q : QueuedFrame) :
    q.mgmtFormOk = true ↔ q.SharedFormOk ∧ q.sizeCode = 0 ∧ bits q.word0 27 5 = 0 ∧ bits q.word0 56 8 = 0 := by
  unfold QueuedFrame.mgmtFormOk QueuedFrame.SharedFormOk QueuedFrame.sizeCode
  simp only [Bool.and_eq_true, beq_iff_eq, Bool.not_eq_true']
  tauto

theorem Size.ofCode_eq_some_iff (c : Nat) (z : Size) : Size.ofCode c = some z ↔ z.code = c := by
  constructor
  · intro h
    unfold Size.ofCode at h
    split at h <;> cases h <;> rfl
  · rintro rfl
    cases z <;> rfl

theorem Size.code_bytes_mem (c bytes : Nat) :
    (c, bytes) ∈ [(0, 1), (1, 2), (2, 4), (3, 8), (4, 64)] ↔ ∃ z : Size, z.code = c ∧ z.bytes = bytes := by
  constructor
  · intro h
    simp only [List.mem_cons, Prod.mk.injEq, List.not_mem_nil, or_false] at h
    rcases h with ⟨rfl, rfl⟩ | ⟨rfl, rfl⟩ | ⟨rfl, rfl⟩ | ⟨rfl, rfl⟩ | ⟨rfl, rfl⟩
    · exact ⟨.b1, rfl, rfl⟩
    · exact ⟨.b2, rfl, rfl⟩
    · exact ⟨.b4, rfl, rfl⟩
    · exact ⟨.b8, rfl, rfl⟩
    · exact ⟨.b64, rfl, rfl⟩
  · rintro ⟨z, rfl, rfl⟩
    cases z <;> decide

theorem QueuedFrame.addr_toNat (q : QueuedFrame) : q.addr.toNat = bits q.word0 24 40 := field_toNat _ _ _

theorem QueuedFrame.accessFormOk_iff (q : QueuedFrame) :
    q.accessFormOk = true ↔ q.SharedFormOk ∧
      ∃ bytes, (q.sizeCode, bytes) ∈ [(0, 1), (1, 2), (2, 4), (3, 8), (4, 64)] ∧ bits q.word0 24 40 % bytes = 0 := by
  rw [← q.addr_toNat]
  have haligned : (∃ bytes, (q.sizeCode, bytes) ∈ [(0, 1), (1, 2), (2, 4), (3, 8), (4, 64)] ∧ q.addr.toNat % bytes = 0) ↔
      ∃ z : Size, z.code = q.sizeCode ∧ q.addr.toNat % z.bytes = 0 := by
    simp only [Size.code_bytes_mem]
    constructor
    · rintro ⟨_, ⟨z, hz, rfl⟩, h⟩
      exact ⟨z, hz, h⟩
    · rintro ⟨z, hz, h⟩
      exact ⟨z.bytes, ⟨z, hz, rfl⟩, h⟩
  rw [haligned]
  unfold QueuedFrame.accessFormOk QueuedFrame.SharedFormOk
  simp only [Bool.and_eq_true, beq_iff_eq, Bool.not_eq_true', and_assoc]
  cases hcode : Size.ofCode q.sizeCode with
  | none =>
    have hno : ∀ z : Size, z.code ≠ q.sizeCode := fun z hz => by
      rw [(Size.ofCode_eq_some_iff _ _).2 hz] at hcode
      cases hcode
    simp [hno]
  | some z =>
    have honly : ∀ y : Size, y.code = q.sizeCode ↔ y = z := fun y => by
      rw [← Size.ofCode_eq_some_iff, hcode, Option.some_inj, eq_comm]
    simp [honly]

/-- The form check by the kind code (R111 check 2). -/
theorem QueuedFrame.formOk_iff (q : QueuedFrame) : q.formOk = true ↔
    (q.kind = 1 ∨ q.kind = 2) ∧ q.accessFormOk = true ∨
      q.kind = 3 ∧ q.mgmtFormOk = true ∧ q.action = 0 ∧ q.value = 0 ∧ q.argument = 0 ∧ IndexExists q.unit q.index ∨
      q.kind = 4 ∧ q.mgmtFormOk = true ∧ q.action = 0 ∧ q.argument = 0 ∧ IndexWritten q.unit q.index ∨
      q.kind = 5 ∧ q.mgmtFormOk = true ∧ q.index = 0 ∧ (q.unit, q.action) ∈ actionRows.map (·.1) := by
  rw [← indexExists_iff, ← writeRow_ne_malformed_iff, ← actRow_ne_malformed_iff]
  unfold QueuedFrame.formOk
  split
  case h_6 => simp_all
  all_goals rename_i hkind; simp [hkind, and_assoc]

/-- A frame that names nothing the map has fails its form check (R167). -/
theorem QueuedFrame.formOk_of_malformed {q : QueuedFrame} (h : q.row = .malformedRefusal) : q.formOk = false := by
  obtain ⟨hread, hwrite, hmread, hmwrite, hact, _⟩ := q.row_of_kind
  rw [← Bool.not_eq_true, QueuedFrame.formOk_iff, ← indexExists_iff, ← writeRow_ne_malformed_iff, ← actRow_ne_malformed_iff]
  rintro (⟨hkind | hkind, _⟩ | ⟨hkind, _, _, _, _, hindex⟩ | ⟨hkind, _, _, _, hrow⟩ | ⟨hkind, _, _, hrow⟩)
  · rw [hread hkind] at h; cases h
  · rw [hwrite hkind] at h; cases h
  · rw [hmread hkind, if_pos hindex] at h; cases h
  · exact hrow ((hmwrite hkind).symm.trans h)
  · exact hrow ((hact hkind).symm.trans h)

/-! ## What the receiver keeps (R190) -/

theorem QueuedFrame.ofWords_word0 (w : Word) (rest : List Word) : (QueuedFrame.ofWords w rest).word0 = w := by
  unfold QueuedFrame.ofWords
  split <;> rfl

theorem QueuedFrame.ofWords_lengthWrong (w : Word) (rest : List Word) :
    (QueuedFrame.ofWords w rest).lengthWrong = false ↔ requiredWords w = some rest.length := by
  unfold QueuedFrame.ofWords
  split <;> simp_all

theorem QueuedFrame.ofWords_words {w : Word} {rest : List Word} (h : requiredWords w = some rest.length) :
    (QueuedFrame.ofWords w rest).words = rest := by
  unfold QueuedFrame.ofWords
  rw [if_pos h]

theorem Size.ofCode_words (c n : Nat) : (Size.ofCode c).map Size.words = some n ↔ c ≤ 3 ∧ n = 1 ∨ c = 4 ∧ n = 8 := by
  unfold Size.ofCode
  split
  case h_6 => simp_all; omega
  all_goals simp [Size.words]; omega

/-- The number of words that a request frame's kind and size require (section 10.1). -/
theorem requiredWords_iff (w : Word) (n : Nat) : requiredWords w = some n ↔
    bits w 0 4 = 1 ∧ n = 0 ∨ bits w 0 4 = 2 ∧ bits w 16 3 ≤ 3 ∧ n = 1 ∨ bits w 0 4 = 2 ∧ bits w 16 3 = 4 ∧ n = 8 ∨
      (bits w 0 4 = 3 ∨ bits w 0 4 = 4 ∨ bits w 0 4 = 5) ∧ n = 2 := by
  unfold requiredWords
  split
  case h_2 => rw [Size.ofCode_words]; omega
  case h_6 => simp_all
  all_goals simp only [Option.some.injEq]; omega

theorem requiredWords_length_iff (w : Word) (rest : List Word) : requiredWords w = some rest.length ↔
    (bits w 0 4 = 1 ∧ rest = [] ∨ bits w 0 4 = 2 ∧ bits w 16 3 ≤ 3 ∧ rest.length = 1 ∨
      bits w 0 4 = 2 ∧ bits w 16 3 = 4 ∧ rest.length = 8 ∨
      (bits w 0 4 = 3 ∨ bits w 0 4 = 4 ∨ bits w 0 4 = 5) ∧ rest.length = 2) := by
  rw [requiredWords_iff, List.length_eq_zero_iff]

/-! ## The statement -/

theorem State.Selects.exec_malformedRefusal {s : State} {st : Fin 16} {q : QueuedFrame}
    (h : s.Selects .malformedRefusal st q) :
    exec .malformedRefusal s =
      .next (s.answered st q (if (s.stream st).isOpen then .malformed else .streamClosed) []) := by
  have hform := QueuedFrame.formOk_of_malformed h.row
  refine h.exec_refused ((s.commonCheck_eq_some_iff st q _).2 ?_)
  cases hopen : (s.stream st).isOpen with
  | false => exact Or.inl ⟨rfl, rfl⟩
  | true => exact Or.inr (Or.inl ⟨rfl, hform, rfl⟩)

theorem writeRow_of_unit_not_mem {unit : Nat} (h : unit ∉ [0, 1, 2, 3, 6]) (index : Nat) :
    writeRow unit index = .malformedRefusal := by
  by_contra hrow
  have hwritten := (writeRow_ne_malformed_iff unit index).1 hrow
  simp only [List.mem_cons, List.not_mem_nil, or_false, not_or] at h
  unfold IndexWritten at hwritten
  omega

theorem QueuedFrame.toRequest_eq {q : QueuedFrame} {z : Size} (hz : z.code = q.sizeCode) (st : Fin 16) (p : Policy) :
    q.toRequest st p = { stream := st, tag := q.tag, isWrite := q.kind = 2, addr := q.addr, size := z, data := q.words
                         policy := p, failure := none } := by
  unfold QueuedFrame.toRequest
  rw [(Size.ofCode_eq_some_iff _ _).2 hz]
  rfl

/-- The row of a MGMT-WRITE, unit by unit. -/
theorem QueuedFrame.row_of_write {q : QueuedFrame} (hkind : q.kind = 4) :
    (q.unit = 0 → q.row = if q.index = 2 then .lineStoreControlWrite else .malformedRefusal) ∧
    (q.unit = 1 → q.row = if q.index ≤ 15 then .streamRecordWrite else .malformedRefusal) ∧
    (q.unit = 2 → q.row = if q.index ≤ 23 ∨ 32 ≤ q.index ∧ q.index ≤ 55 then .stagingWindowWrite else .malformedRefusal) ∧
    (q.unit = 3 → q.row = if q.index ≤ 5 then .noticeSourceWrite else .malformedRefusal) ∧
    (q.unit = 6 → q.row = if q.index = 1 ∨ q.index = 2 then .mgmtWrite else .malformedRefusal) ∧
    (q.unit ∉ [0, 1, 2, 3, 6] → q.row = .malformedRefusal) := by
  rw [q.row_of_kind.2.2.2.1 hkind]
  exact ⟨fun h => by rw [h]; rfl, fun h => by rw [h]; rfl, fun h => by rw [h]; rfl, fun h => by rw [h]; rfl,
    fun h => by rw [h]; rfl, fun h => writeRow_of_unit_not_mem h _⟩

/-- Settles O13, by the checks in their order, the form check by kind, the row by kind and the number of words by kind. -/
theorem admissionRefusesByFirstCheck : Obligations.AdmissionRefusesByFirstCheck := by
  refine ⟨fun row s st q x h hx => h.exec_refused ((s.commonCheck_eq_some_iff st q x).2 hx),
    fun s st q h => h.exec_malformedRefusal, fun q => ?_, fun q => ?_, fun w rest => ?_⟩
  · dsimp only
    rw [q.formOk_iff, q.accessFormOk_iff, q.mgmtFormOk_iff]
    exact Iff.rfl
  · obtain ⟨hread, hwrite, hmread, _, hact, hnone⟩ := q.row_of_kind
    refine ⟨⟨field_toNat _ _ _, field_toNat _ _ _, q.addr_toNat, rfl, rfl, rfl, rfl, rfl, q.isMgmt_iff⟩,
      fun st p z hz _ => QueuedFrame.toRequest_eq hz st p, hread, hwrite, fun hkind hexists => ?_, fun hkind hnot => ?_,
      QueuedFrame.row_of_write, fun hkind => ⟨fun a ha hname => ?_, fun hno => ?_⟩, hnone⟩
    · exact (hmread hkind).trans (if_pos ((indexExists_iff q.unit q.index).2 hexists))
    · exact (hmread hkind).trans (if_neg fun h => hnot ((indexExists_iff q.unit q.index).1 h))
    · exact (hact hkind).trans (actRow_of_mem ha hname)
    · exact (hact hkind).trans (actRow_of_not_mem hno)
  · have hfits := requiredWords_length_iff w rest
    refine ⟨rfl, rfl, rfl, QueuedFrame.ofWords_word0 w rest, ?_, fun hfit => QueuedFrame.ofWords_words (hfits.2 hfit)⟩
    exact (QueuedFrame.ofWords_lengthWrong w rest).trans hfits

end Sys2Proof.Machine
end

section
/-! PROOFS. The steps of a tracker entry before it issues (chapter 3): step 1, victim choice, the eviction step, step 4, the sending
of a slot, and what a final failure does. -/

namespace Sys2Proof.Machine

-- Proofs are elaborated one after another: the threads of proofs that wait for each other do not fit the memory of the check.
set_option Elab.async false

open Sys2Proof (Word LineAddr LineData)

/-! ## Searches for the lowest number (R51, R68, R155) -/

theorem State.freeTag_iff (s : State) (t : Fin 32) :
    s.freeTag = some t ↔ s.tag t = .free ∧ ∀ u < t, s.tag u ≠ .free := by
  unfold State.freeTag
  rw [find_finRange_iff]
  simp only [beq_iff_eq, beq_eq_false_iff_ne]

theorem State.freeEntry_iff (s : State) (n : Fin 12) :
    s.freeEntry = some n ↔ s.entry n = none ∧ ∀ m < n, s.entry m ≠ none := by
  unfold State.freeEntry
  rw [find_finRange_iff]
  simp only [Option.isNone_iff_eq_none, Option.isNone_eq_false_iff, Option.isSome_iff_ne_none]

theorem State.anySlot_iff (s : State) (p : EvictionSlot → Bool) :
    s.anySlot p = true ↔ ∃ k sl, s.slot k = some sl ∧ p sl = true := by
  constructor
  · intro h
    by_contra hno
    have hall : ∀ k sl, s.slot k = some sl → p sl = false := fun k sl hsl =>
      Bool.not_eq_true _ ▸ fun hp => hno ⟨k, sl, hsl, hp⟩
    rw [State.anySlot_false hall] at h
    cases h
  · rintro ⟨k, sl, hsl, hp⟩
    unfold State.anySlot
    rw [List.any_eq_true]
    exact ⟨k, List.mem_finRange k, by rw [hsl]; exact hp⟩

/-! ## Step 1 (R53, R57) -/

/-- A slot keeps the entry from passing step 1 (R53). -/
def State.Stuck (s : State) (e : TrackerEntry) : Prop :=
  (∃ k sl, s.slot k = some sl ∧ sl.line = e.line ∧ sl.kind ≠ .flush) ∨
    (e.kind = .upgrade ∨ e.kind = .purgeDirect) ∧ ∃ w k, s.lookup e.line = some w ∧ (s.line w).holder = .slot k

theorem State.lineInSlot_iff (s : State) (e : TrackerEntry) : s.lineInSlot e = true ↔ s.Stuck e := by
  unfold State.lineInSlot State.Stuck
  simp only [Bool.or_eq_true, Bool.and_eq_true, State.anySlot_iff, beq_iff_eq, bne_iff_ne]
  refine or_congr Iff.rfl (and_congr_right fun _ => ?_)
  cases s.lookup e.line with
  | none => simp
  | some w => cases h : (s.line w).holder <;> simp [h]

theorem State.lineInSlot_eq_false {s : State} {e : TrackerEntry} (h : ¬ s.Stuck e) : s.lineInSlot e = false := by
  rw [← Bool.not_eq_true, State.lineInSlot_iff]
  exact h

theorem State.step1_of_stuck {s : State} {n : Fin 12} {e : TrackerEntry} (he : s.entry n = some e) (h : s.Stuck e) :
    s.step1 n = s.setEntry n (some (e.wait .lineInSlot)) := by
  simp only [State.step1, he, (s.lineInSlot_iff e).2 h, if_true]

/-- Past step 1 the kind of the entry decides how it goes on (section 3.2). -/
theorem State.step1_of_clear {s : State} {n : Fin 12} {e : TrackerEntry} (he : s.entry n = some e) (h : ¬ s.Stuck e) :
    (e.kind = .upgrade → s.step1 n = (s.holdUpgrade n).step4 n) ∧
    ((e.kind = .directRead ∨ e.kind = .directWrite) → s.step1 n = s.step4 n) ∧
    ((e.kind = .fetchS ∨ e.kind = .fetchO) → s.step1 n = if e.way = none then s.victimStep n else s.step4 n) ∧
    (e.kind = .purgeDirect → s.step1 n = s.evictStep n) := by
  have hclear := State.lineInSlot_eq_false h
  refine ⟨fun hk => ?_, fun hk => ?_, fun hk => ?_, fun hk => ?_⟩
  · simp only [State.step1, he, hclear, Bool.false_eq_true, if_false, hk]
  · rcases hk with hk | hk <;> simp only [State.step1, he, hclear, Bool.false_eq_true, if_false, hk]
  · rcases hk with hk | hk <;> simp only [State.step1, he, hclear, Bool.false_eq_true, if_false, hk] <;> cases e.way <;> rfl
  · simp only [State.step1, he, hclear, Bool.false_eq_true, if_false, hk]

/-- An UPGRADE entry takes the hold on its line's way (R57). -/
theorem State.holdUpgrade_eq {s : State} {n : Fin 12} {e : TrackerEntry} {w : WayRef} (he : s.entry n = some e)
    (hw : s.lookup e.line = some w) :
    s.holdUpgrade n = (s.setLine w { s.line w with holder := .entry n }).setEntry n (some { e with way := some w }) := by
  simp only [State.holdUpgrade, he, hw]

/-! ## Victim choice (R9 to R11, R55) -/

/-- Way `v` of a set is picked, by the first step of R9 (the pointer stays) or by the second (it moves). -/
def State.Picks (s : State) (set : Fin 128) (v : Fin 4) (moves : Bool) : Prop :=
  let empty (v : Fin 4) : Prop := (s.line ⟨set, v⟩).holder = .none ∧ (s.line ⟨set, v⟩).state = .invalid
  moves = false ∧ empty v ∧ (∀ u < v, ¬ empty u) ∨
    moves = true ∧ (∀ u, ¬ empty u) ∧ ∃ i : Fin 4, v = s.victim set + i ∧ (s.line ⟨set, v⟩).holder = .none ∧
      ∀ j < i, (s.line ⟨set, s.victim set + j⟩).holder ≠ .none

theorem State.chooseWay_iff (s : State) (set : Fin 128) (v : Fin 4) (moves : Bool) :
    s.chooseWay set = some (v, moves) ↔ s.Picks set v moves := by
  have hempty (u : Fin 4) : ((s.line ⟨set, u⟩).state == .invalid && (s.line ⟨set, u⟩).holder == .none) = true ↔
      (s.line ⟨set, u⟩).holder = .none ∧ (s.line ⟨set, u⟩).state = .invalid := by
    rw [Bool.and_eq_true, beq_iff_eq, beq_iff_eq, and_comm]
  unfold State.chooseWay State.Picks
  dsimp only
  cases hopen : (List.finRange 4).find? fun u => (s.line ⟨set, u⟩).state == .invalid && (s.line ⟨set, u⟩).holder == .none with
  | some u =>
    obtain ⟨hu, hlow⟩ := (find_finRange_iff _ u).1 hopen
    simp only [← Bool.not_eq_true, hempty] at hu hlow
    constructor
    · intro h
      cases h
      exact Or.inl ⟨rfl, hu, hlow⟩
    · rintro (⟨rfl, hv, hvlow⟩ | ⟨_, hno, _⟩)
      · rcases lt_trichotomy u v with hlt | rfl | hlt
        · exact absurd hu (hvlow u hlt)
        · rfl
        · exact absurd hv (hlow v hlt)
      · exact absurd hu (hno u)
  | none =>
    have hno := (find_finRange_none _).1 hopen
    simp only [← Bool.not_eq_true, hempty] at hno
    simp only [List.find?_map, Option.map_map, Option.map_eq_some_iff, find_finRange_iff, Function.comp_apply, beq_iff_eq,
      beq_eq_false_iff_ne, Prod.mk.injEq]
    constructor
    · rintro ⟨i, ⟨hi, hlow⟩, rfl, rfl⟩
      exact Or.inr ⟨rfl, hno, i, rfl, hi, hlow⟩
    · rintro (⟨_, hv, _⟩ | ⟨rfl, _, i, rfl, hi, hlow⟩)
      · exact absurd hv (hno v)
      · exact ⟨i, ⟨hi, hlow⟩, rfl, rfl⟩

theorem State.chooseWay_eq_none {s : State} {set : Fin 128} (h : ∀ v, (s.line ⟨set, v⟩).holder ≠ .none) :
    s.chooseWay set = none := by
  cases hchoice : s.chooseWay set with
  | none => rfl
  | some choice =>
    rcases (s.chooseWay_iff set choice.1 choice.2).1 hchoice with ⟨_, hempty, _⟩ | ⟨_, _, _, _, hheld, _⟩
    · exact absurd hempty.1 (h _)
    · exact absurd hheld (h _)

/-- A slot filled with a line: a PUTBACK carries the marks as word mask, a RELEASE none and, past PARKED, no data (R10, R69). -/
theorem EvictionSlot.ofLine_displaced (r : LineRecord) (state : SlotState) (w : WayRef) :
    EvictionSlot.ofLine (if r.state = .modified then .putback else .release) state w r = {
      state := state, kind := if r.state = .modified then .putback else .release, line := lineAt r.tag w.set
      mask := if r.state = .modified then r.marks else 0
      data := if r.state = .modified ∨ state.isParked = true then r.data else Vector.replicate 8 0
      origin := w, originState := r.state, attempts := 0, stallReported := false } := by
  unfold EvictionSlot.ofLine
  by_cases hmodified : r.state = .modified <;> cases hparked : state.isParked <;> simp [hmodified]

/-- The three ends of victim choice once a way is picked (R10, R55). -/
theorem State.victimStep_of_choice {s : State} {n : Fin 12} {e : TrackerEntry} {v : Fin 4} {moves : Bool}
    (he : s.entry n = some e) (hchoice : s.chooseWay (setOf e.line) = some (v, moves)) :
    let w : WayRef := ⟨setOf e.line, v⟩
    let r := s.line w
    let kind : SlotKind := if r.state = .modified then .putback else .release
    (¬ (r.state = .owned ∨ r.state = .modified) → s.victimStep n =
      ((s.reserveWay n w moves).setEntry n (some { e with way := some w, wake := false })).step4 n) ∧
    ((r.state = .owned ∨ r.state = .modified) → s.freeSlot = none →
      s.victimStep n = s.setEntry n (some (e.wait .noSlot))) ∧
    ∀ k, (r.state = .owned ∨ r.state = .modified) → s.freeSlot = some k → s.victimStep n =
      (((s.setSlot k (some (EvictionSlot.ofLine kind (.parked n) w r))).reserveWay n w moves).setEntry n
        (some { e with way := some w, victim := some k, wake := false })).step4 n := by
  dsimp only
  refine ⟨fun howned => ?_, fun howned hfull => ?_, fun k howned hfree => ?_⟩
  · simp only [State.victimStep, he, hchoice, howned, if_false]
  · simp only [State.victimStep, he, hchoice, howned, if_true, hfull]
  · simp only [State.victimStep, he, hchoice, howned, if_true, hfree]

/-- Settles O46, by the two steps of the choice and the three ends it has. -/
theorem victimChoiceTakesEffectWhole : Obligations.VictimChoiceTakesEffectWhole := by
  intro s n e he
  dsimp only
  refine ⟨fun hrun hkind hdue => ?_, fun v moves => s.chooseWay_iff _ v moves, fun hheld => ?_, fun v moves hpicks => ?_⟩
  · have hvictim : e.victimDue = true := by
      unfold TrackerEntry.victimDue
      rcases hkind with hkind | hkind <;> rcases hdue with hdue | ⟨hdue, hwake⟩ <;> simp [EntryKind.isFetch, *]
    show execVictimChoice n s = _
    refine (whileRunning_high hrun).trans (congrArg _ ?_)
    simp only [he, hvictim, if_true]
  · simp only [State.victimStep, he, State.chooseWay_eq_none hheld]
    rfl
  · obtain ⟨hplain, hfull, hslot⟩ := State.victimStep_of_choice he ((s.chooseWay_iff _ v moves).2 hpicks)
    refine ⟨hplain, hfull, fun k howned hfree => ?_⟩
    rw [hslot k howned hfree, EvictionSlot.ofLine_displaced]
    simp only [SlotState.isParked, or_true, if_true]
    rfl

/-! ## The eviction step (R17, R56) -/

/-- The ends of the eviction step by the line it finds. -/
theorem State.evictStep_of_lookup {s : State} {n : Fin 12} {e : TrackerEntry} {w : WayRef} (he : s.entry n = some e)
    (hw : s.lookup e.line = some w) :
    (¬ ((s.line w).state = .owned ∨ (s.line w).state = .modified) →
      s.evictStep n = (s.setLine w (s.line w).emptied).step4 n) ∧
    (((s.line w).state = .owned ∨ (s.line w).state = .modified) → s.freeSlot = none →
      s.evictStep n = s.setEntry n (some (e.wait .noSlot))) ∧
    ∀ k, ((s.line w).state = .owned ∨ (s.line w).state = .modified) → s.freeSlot = some k →
      s.evictStep n = ((s.evictInto k w).setEntry n (some (e.wait .slotNotSent))).queueSlot k := by
  refine ⟨fun howned => ?_, fun howned hfull => ?_, fun k howned hfree => ?_⟩
  · simp only [State.evictStep, he, hw, howned, if_false]
  · simp only [State.evictStep, he, hw, howned, if_true, hfull]
  · simp only [State.evictStep, he, hw, howned, if_true, hfree]

/-- The slot that an eviction fills and the way it empties (R17, R132). -/
theorem State.evictInto_eq (s : State) (k : Fin 4) (w : WayRef) :
    s.evictInto k w = (s.setSlot k (some {
      state := .queued, kind := if (s.line w).state = .modified then .putback else .release
      line := lineAt (s.line w).tag w.set, mask := if (s.line w).state = .modified then (s.line w).marks else 0
      data := if (s.line w).state = .modified then (s.line w).data else Vector.replicate 8 0, origin := w
      originState := (s.line w).state, attempts := 0, stallReported := false })).setLine w
        { s.line w with state := .invalid, marks := 0 } := by
  unfold State.evictInto
  dsimp only
  rw [EvictionSlot.ofLine_displaced]
  simp only [SlotState.isParked, Bool.false_eq_true, or_false]
  rfl

theorem exec_evictionStep {s : State} {n : Fin 12} {e : TrackerEntry} (hrun : s.resetN = true) (he : s.entry n = some e)
    (hkind : e.kind = .purgeDirect) (hphase : e.phase = .waiting .noSlot) (hwake : e.wake = true) :
    exec (.evictionStep n) s =
      .next (wrapUp s (if s.lookup e.line = none then s.step1 n else s.evictStep n)) := by
  have hdue : e.evictionDue = true := by simp [TrackerEntry.evictionDue, *]
  show execEvictionStep n s = _
  refine (whileRunning_high hrun).trans (congrArg _ ?_)
  simp only [he, hdue, if_true]
  cases s.lookup e.line <;> rfl

/-- Settles O47, by what step 1 finds and what the eviction step finds. -/
theorem stepsBeforeIssue : Obligations.StepsBeforeIssue := by
  intro s n e he
  dsimp only
  refine ⟨fun hstuck => State.step1_of_stuck he hstuck, fun hclear => ?_, fun hrun hkind hphase hwake =>
    exec_evictionStep hrun he hkind hphase hwake, fun habsent => ?_, fun w hw => ?_⟩
  · obtain ⟨hupgrade, hdirect, hfetch, hpurge⟩ := State.step1_of_clear he hclear
    refine ⟨fun w hk hw => ?_, hdirect, hfetch, hpurge⟩
    rw [hupgrade hk, State.holdUpgrade_eq he hw]
  · simp only [State.evictStep, he, habsent]
  · obtain ⟨hplain, hfull, hslot⟩ := State.evictStep_of_lookup he hw
    refine ⟨fun hshared => hplain (by simp [hshared]), hfull, fun k howned hfree => ?_⟩
    rw [hslot k howned hfree, State.evictInto_eq, State.lineAt_of_lookup hw]
    rfl

/-! ## Step 4 (R58, R59) -/

theorem State.step4_of_down {s : State} {n : Fin 12} {e : TrackerEntry} (he : s.entry n = some e)
    (hdown : s.dlink.state ≠ .up) : s.step4 n = s.failFinal n .linkDown none := by
  have hlink : s.linkUp = false := by rw [← Bool.not_eq_true, State.linkUp_iff]; exact hdown
  simp only [State.step4, he, hlink, Bool.false_eq_true, if_false]

theorem State.step4_of_noTag {s : State} {n : Fin 12} {e : TrackerEntry} (he : s.entry n = some e)
    (hup : s.dlink.state = .up) (htag : s.freeTag = none) : s.step4 n = s.setEntry n (some (e.wait .noTag)) := by
  simp only [State.step4, he, s.linkUp_iff.2 hup, htag, if_true]

/-- With the D-link UP, step 4 changes its own entry, the tags and the transmitter at most. -/
theorem State.step4_frame {s : State} (n : Fin 12) (hup : s.dlink.state = .up) :
    (∀ k, (s.step4 n).slot k = s.slot k) ∧ ∀ m, m ≠ n → (s.step4 n).entry m = s.entry m := by
  cases he : s.entry n with
  | none => simp only [State.step4, he, implies_true, and_self]
  | some e =>
    cases htag : s.freeTag with
    | none =>
      rw [State.step4_of_noTag he hup htag]
      exact ⟨fun _ => rfl, fun m hm => State.entry_setEntry_of_ne s hm _⟩
    | some t =>
      simp only [State.step4, he, s.linkUp_iff.2 hup, htag, if_true, State.issue]
      cases e.packet t <;> exact ⟨fun _ => rfl, fun m hm => State.entry_setEntry_of_ne _ hm _⟩

/-! ## The entries that a sent slot held back (R56) -/

/-- The entry waits for the sending of a slot, and no QUEUED slot carries its line any more. -/
def State.SendingDue (s : State) (n : Fin 12) : Prop :=
  ∃ e, s.entry n = some e ∧ e.phase = .waiting .slotNotSent ∧
    ∀ k sl, s.slot k = some sl → sl.line = e.line → sl.state ≠ .queued

theorem State.sentOrFreed_iff (s : State) (n : Fin 12) : s.sentOrFreed n = true ↔ s.SendingDue n := by
  unfold State.sentOrFreed State.SendingDue
  cases s.entry n with
  | none => simp
  | some e =>
    have hslots : (s.anySlot fun sl => sl.line == e.line && sl.state == .queued) = false ↔
        ∀ k sl, s.slot k = some sl → sl.line = e.line → sl.state ≠ .queued := by
      rw [← Bool.not_eq_true, State.anySlot_iff]
      simp
    simp only [Bool.and_eq_true, beq_iff_eq, Bool.not_eq_true', hslots, Option.some.injEq, exists_eq_left']

theorem State.endSlotNotSent_of_none {s : State} (h : ∀ n, ¬ s.SendingDue n) : s.endSlotNotSent = s := by
  unfold State.endSlotNotSent
  have hnone : ∀ n, s.sentOrFreed n = false := fun n => by rw [← Bool.not_eq_true, State.sentOrFreed_iff]; exact h n
  induction List.finRange 12 with
  | nil => rfl
  | cons n rest ih => rw [List.foldl_cons, hnone n]; exact ih

/-- The fold over entries of which none is due leaves the state as it is. -/
theorem foldl_step4_of_none {s : State} {l : List (Fin 12)} (h : ∀ n ∈ l, ¬ s.SendingDue n) :
    l.foldl (fun s n => if s.sentOrFreed n then s.step4 n else s) s = s := by
  induction l with
  | nil => rfl
  | cons n rest ih =>
    have hn : ¬ s.sentOrFreed n = true := by
      rw [State.sentOrFreed_iff]
      exact h n List.mem_cons_self
    rw [List.foldl_cons, if_neg hn]
    exact ih fun m hm => h m (List.mem_cons_of_mem n hm)

/-- One entry's step 4 makes no other entry due. -/
theorem State.sendingDue_step4 {s : State} {m n : Fin 12} (hup : s.dlink.state = .up) (hm : m ≠ n) :
    (s.step4 n).SendingDue m ↔ s.SendingDue m := by
  obtain ⟨hslot, hentry⟩ := State.step4_frame n hup
  unfold State.SendingDue
  simp only [hslot, hentry m hm]

theorem State.endSlotNotSent_of_one {s : State} {n : Fin 12} (hup : s.dlink.state = .up) (hn : s.SendingDue n)
    (hother : ∀ m, m ≠ n → ¬ s.SendingDue m) : s.endSlotNotSent = s.step4 n := by
  obtain ⟨before, behind, hall⟩ := List.append_of_mem (List.mem_finRange n)
  have hnodup := List.nodup_finRange 12
  rw [hall, List.nodup_append, List.nodup_cons] at hnodup
  obtain ⟨_, ⟨hbehind, _⟩, hbefore⟩ := hnodup
  unfold State.endSlotNotSent
  rw [hall, List.foldl_append, foldl_step4_of_none fun m hm => hother m (hbefore m hm n List.mem_cons_self),
    List.foldl_cons, if_pos ((s.sentOrFreed_iff n).2 hn)]
  refine foldl_step4_of_none fun m hm => ?_
  have hne : m ≠ n := fun h => hbehind (h ▸ hm)
  rw [State.sendingDue_step4 hup hne]
  exact hother m hne

/-! ## The sending of a slot (R71, R74) -/

theorem State.askTag_waits {s : State} {k : Fin 4} (h : s.dlink.state ≠ .up ∨ s.freeTag = none) : s.askTag k = s := by
  unfold State.askTag
  split
  · split
    · rename_i hasks
      have htag : s.freeTag = none := h.resolve_left (not_not_intro ((s.linkUp_iff).1 hasks.2))
      rw [htag]
    · rfl
  · rfl

theorem State.askTag_sends {s : State} {k : Fin 4} {sl : EvictionSlot} {t : Fin 32} (hsl : s.slot k = some sl)
    (hqueued : sl.state = .queued) (hup : s.dlink.state = .up) (htag : s.freeTag = some t) :
    s.askTag k = s.sendSlot k t := by
  simp only [State.askTag, hsl, hqueued, s.linkUp_iff.2 hup, htag, and_self, if_true]

theorem State.stalls_iff (s : State) (sl : EvictionSlot) : s.stalls sl = true ↔
    sl.stallReported = false ∧ 1 + s.dlink.retryLimit.toNat < min 255 (sl.attempts + 1) := by
  rw [State.stalls, Bool.and_eq_true, Bool.not_eq_true', decide_eq_true_iff]
  rfl

/-- The slot as its sending leaves it, with its packet formed and its timer started. -/
theorem State.sendSlot_eq {s : State} {k : Fin 4} {sl : EvictionSlot} (t : Fin 32) (hsl : s.slot k = some sl) :
    let sent : State := { s.setSlot k (some { sl with
        state := .sending t, attempts := min 255 (sl.attempts + 1)
        stallReported := sl.stallReported || s.stalls sl }) with
      dlink := { s.dlink with
        tags := s.dlink.tags.set t (.inUse (.slot k) s.dlink.timeout), tx := s.dlink.tx ++ [sl.packet t] } }
    s.sendSlot k t = if s.stalls sl then
      (sent.log (attemptFault .writebackStalled sl.line t none (min 255 (sl.attempts + 1)))).raise srcWbStall
    else sent := by
  simp only [State.sendSlot, hsl]
  rfl

/-- Settles O48, by the branches of step 4 and of the sending of a slot. -/
theorem tagsAreTakenLowestFirst : Obligations.TagsAreTakenLowestFirst := by
  refine ⟨State.freeTag_iff, fun s n e he => ⟨fun hrun hphase => ?_, State.step4_of_down he, State.step4_of_noTag he,
    fun t r rest hup htag hparked => ?_⟩, fun s k sl hsl hqueued => ⟨fun hrun hup => ?_, rfl, State.askTag_waits,
    fun t hup htag => ?_⟩, fun s => ⟨State.endSlotNotSent_of_none, fun n => State.endSlotNotSent_of_one⟩⟩
  · show execEntryIssue n s = _
    refine (whileRunning_high hrun).trans (congrArg _ ?_)
    simp only [he, hphase, if_true]
  · refine State.step4_issues he hup htag ?_
    unfold TrackerEntry.packet
    rw [hparked]
    cases e.kind <;> simp
  · show execSlotSend k s = _
    refine (whileRunning_high hrun).trans (congrArg _ ?_)
    simp only [hsl, hqueued, s.linkUp_iff.2 hup, and_self, if_true]
  · have hsent := State.sendSlot_eq t hsl
    rw [State.askTag_sends hsl hqueued hup htag, hsent]
    dsimp only
    refine ⟨fun hstalls => ?_, fun hquiet => ?_⟩
    · have hstalls' := (s.stalls_iff sl).2 hstalls
      rw [if_pos hstalls', hstalls', Bool.or_true]
      rfl
    · have hquiet' : s.stalls sl = false := by rw [← Bool.not_eq_true, State.stalls_iff]; exact hquiet
      rw [hquiet', Bool.or_false]
      rfl

/-! ## Final failure (R13, R16, R65, R66, R70) -/

/-- The entry as a final failure leaves it (R65). -/
def TrackerEntry.failed (e : TrackerEntry) (mark : FailMark) : TrackerEntry := { e with
  phase := .ending, way := none, victim := none, converted := false, answer := .none, storedShared := false
  parked := e.parked.map (Request.markFailed mark) }

/-- The failure logged and the entry marked, before the way, the stored bytes and the victim are dealt with. -/
def State.failLogged (s : State) (n : Fin 12) (e : TrackerEntry) (mark : FailMark) (reason : Option HomeReason) : State :=
  (s.log (failureFault e mark reason)).setEntry n (some (e.failed mark))

theorem State.failLogged_line (s : State) (n : Fin 12) (e : TrackerEntry) (mark : FailMark) (reason : Option HomeReason)
    (w : WayRef) : (s.failLogged n e mark reason).line w = s.line w := s.log_line _ w

theorem State.log_store (s : State) (f : FaultEntry) : (s.log f).store = s.store := by
  unfold State.log
  split <;> rfl

theorem State.failLogged_lookup (s : State) (n : Fin 12) (e : TrackerEntry) (mark : FailMark) (reason : Option HomeReason)
    (l : LineAddr) : (s.failLogged n e mark reason).lookup l = s.lookup l :=
  State.lookup_congr_store (s.log_store _) l

theorem State.failFinal_eq {s : State} {n : Fin 12} {e : TrackerEntry} (he : s.entry n = some e) (mark : FailMark)
    (reason : Option HomeReason) :
    (e.victim = none → s.failFinal n mark reason = ((s.failLogged n e mark reason).failWay e).failStored e) ∧
    ∀ k, e.victim = some k →
      s.failFinal n mark reason = (((s.failLogged n e mark reason).failWay e).failStored e).restoreVictim k := by
  constructor
  · intro hvictim
    simp only [State.failFinal, he, hvictim]
    rfl
  · intro k hvictim
    simp only [State.failFinal, he, hvictim]
    rfl

theorem State.failWay_of_none {s : State} {e : TrackerEntry} (h : e.way = none) : s.failWay e = s := by
  simp only [State.failWay, h]

theorem EntryKind.isFetch_iff (k : EntryKind) : k.isFetch = true ↔ k = .fetchS ∨ k = .fetchO := by
  cases k <;> simp [EntryKind.isFetch]

theorem State.failWay_of_some {s : State} {e : TrackerEntry} {w : WayRef} (h : e.way = some w) :
    s.failWay e = s.setLine w (if e.kind = .fetchS ∨ e.kind = .fetchO then
      { s.line w with state := .invalid, marks := 0, holder := .none } else { s.line w with holder := .none }) := by
  simp only [State.failWay, h, ← EntryKind.isFetch_iff]
  split <;> rfl

theorem State.failStored_of_not {s : State} {e : TrackerEntry} (h : e.storedShared = false) : s.failStored e = s := by
  simp only [State.failStored, h, Bool.false_eq_true, if_false]

theorem State.failStored_of_lookup {s : State} {e : TrackerEntry} {w : WayRef} (h : e.storedShared = true)
    (hw : s.lookup e.line = some w) : s.failStored e =
      if (s.line w).state = .shared then s.setLine w { s.line w with state := .invalid, marks := 0 } else s := by
  simp only [State.failStored, h, if_true, hw]
  rfl

theorem State.restoreVictim_of_parked {s : State} {k : Fin 4} {sl : EvictionSlot} {m : Fin 12} (hsl : s.slot k = some sl)
    (hparked : sl.state = .parked m) : s.restoreVictim k = (s.setLine sl.origin sl.restored).releaseSlot k := by
  simp only [State.restoreVictim, hsl, hparked]

/-- Settles O49, by what the entry holds: nothing, a way, a way and a victim, or bytes stored into a SHARED line. -/
theorem finalFailureIsTakenWhole : Obligations.FinalFailureIsTakenWhole := by
  intro s n e mark reason he
  have hb : s.failLogged n e mark reason = (s.log {
      kind := if mark = .failed then .fetchFailed else .linkDownFail
      stream := e.parked.head?.map (·.stream), requestTag := e.parked.head?.map (·.tag), line := some e.line
      dTag := e.lastTag, reason := reason, attempts := some e.attempts }).setEntry n (some (e.failed mark)) := by
    cases mark <;> rfl
  obtain ⟨hfail, hfailVictim⟩ := State.failFinal_eq he mark reason
  have hreleased {w : WayRef} (hway : e.way = some w) : (s.failLogged n e mark reason).failWay e =
      (s.failLogged n e mark reason).setLine w (if e.kind = .fetchS ∨ e.kind = .fetchO then
        { s.line w with state := .invalid, marks := 0, holder := .none } else { s.line w with holder := .none }) := by
    rw [State.failWay_of_some hway, State.failLogged_line]
  refine ⟨fun hway hvictim hstored => ?_, fun w hway hvictim hstored => ?_, fun w k sl m hway hvictim hstored hsl hparked => ?_,
    fun w hway hvictim hstored hw => ?_⟩
  · rw [hfail hvictim, State.failStored_of_not hstored, State.failWay_of_none hway, hb]
    rfl
  · rw [hfail hvictim, State.failStored_of_not hstored, hreleased hway, hb]
    rfl
  · have hslot : ((s.failLogged n e mark reason).failWay e).slot k = some sl := by
      rw [hreleased hway]
      exact (s.log_slot _ k).trans hsl
    rw [hfailVictim k hvictim, State.failStored_of_not hstored, State.restoreVictim_of_parked hslot hparked, hreleased hway, hb]
    rfl
  · rw [hfail hvictim, State.failWay_of_none hway,
      State.failStored_of_lookup hstored ((s.failLogged_lookup n e mark reason e.line).trans hw), State.failLogged_line, hb]
    rfl

end Sys2Proof.Machine
end

section
/-! PROOFS. READ and WRITE (chapters 1, 3, 4, 5): the window check, the window lookup and the effective policy, hits, what is parked,
refused or left, and the entries that a miss and a direct access create. -/

namespace Sys2Proof.Machine

-- Proofs are elaborated one after another: the threads of proofs that wait for each other do not fit the memory of the check.
set_option Elab.async false

open Sys2Proof (Word LineAddr Granule LineData)

/-! ## The window lookup and the effective policy (R84, R86) -/

/-- Of a sorted active copy one record at most covers a granule. -/
theorem WindowTable.Sorted.covers_unique {t : WindowTable} (h : t.Sorted) {g : Granule} {a b : WindowRecord}
    (ha : a ∈ t.active) (hb : b ∈ t.active) (hag : a.start ≤ g ∧ g ≤ a.last) (hbg : b.start ≤ g ∧ g ≤ b.last) : a = b := by
  by_contra hne
  have hsymm : Std.Symm fun a b : WindowRecord => a.last < b.start ∨ b.last < a.start := ⟨fun _ _ => Or.symm⟩
  have hapart := (h.1.imp (S := fun a b => a.last < b.start ∨ b.last < a.start) Or.inl).forall ha hb hne
  simp only [BitVec.lt_def, BitVec.le_def] at hapart hag hbg
  omega

theorem WindowTable.Sorted.covering_iff {t : WindowTable} (h : t.Sorted) (g : Granule) (r : WindowRecord) :
    t.covering g = some r ↔ r ∈ t.active ∧ r.start ≤ g ∧ g ≤ r.last := by
  unfold WindowTable.covering
  constructor
  · intro hfound
    exact ⟨List.mem_of_find?_eq_some hfound, by simpa using List.find?_some hfound⟩
  · rintro ⟨hmem, hcovers⟩
    cases hfound : t.active.find? fun r => decide (r.start ≤ g ∧ g ≤ r.last) with
    | none => exact absurd hcovers (by simpa using List.find?_eq_none.1 hfound r hmem)
    | some x =>
      have hx : x.start ≤ g ∧ g ≤ x.last := by simpa using List.find?_some hfound
      rw [h.covers_unique hmem (List.mem_of_find?_eq_some hfound) hcovers hx]

/-- Settles O15. -/
theorem windowLookupAndEffectivePolicy : Obligations.WindowLookupAndEffectivePolicy := by
  refine ⟨fun t g r h => h.covering_iff g r, fun c on => ?_, fun c on => ?_, fun on => ?_, fun c => ?_, rfl, rfl, rfl, rfl⟩
  · cases c <;> cases on <;> rfl
  · cases c <;> cases on <;> rfl
  · cases on <;> exact ⟨rfl, rfl⟩
  · cases c <;> exact ⟨rfl, rfl⟩

/-! ## The kind of an access (log entry 20) -/

theorem writeRow_not_access (unit index : Nat) : writeRow unit index ≠ .read ∧ writeRow unit index ≠ .write := by
  unfold writeRow
  repeat' split
  all_goals decide

theorem actRow_not_access (unit action : Nat) : actRow unit action ≠ .read ∧ actRow unit action ≠ .write := by
  unfold actRow
  split <;> decide

theorem QueuedFrame.kind_of_access (q : QueuedFrame) : (q.row = .read → q.kind = 1) ∧ (q.row = .write → q.kind = 2) := by
  have hmread (x : HeadRow) (hx : (if indexExists q.unit q.index then HeadRow.mgmtRead else .malformedRefusal) = x) :
      x ≠ .read ∧ x ≠ .write := by
    subst hx
    split <;> decide
  unfold QueuedFrame.row
  split
  case h_1 hkind => exact ⟨fun _ => hkind, (nomatch ·)⟩
  case h_2 hkind => exact ⟨(nomatch ·), fun _ => hkind⟩
  case h_3 => exact ⟨fun h => absurd rfl (hmread _ h).1, fun h => absurd rfl (hmread _ h).2⟩
  case h_4 => exact ⟨fun h => absurd h (writeRow_not_access _ _).1, fun h => absurd h (writeRow_not_access _ _).2⟩
  case h_5 => exact ⟨fun h => absurd h (actRow_not_access _ _).1, fun h => absurd h (actRow_not_access _ _).2⟩
  case h_6 => exact ⟨(nomatch ·), (nomatch ·)⟩

/-- A READ or WRITE that is selected is admitted. -/
theorem State.Selects.exec_access {s : State} {row : HeadRow} {st : Fin 16} {q : QueuedFrame} (h : s.Selects row st q)
    (hrow : row = .read ∨ row = .write) : exec row.command s = .next (State.admitAccess st q s) := by
  have hadmits : s.admitting row State.admitAccess = State.admitAccess st q s := by
    rw [State.admitting, h.selected]
    exact if_pos h.row
  rcases hrow with rfl | rfl
  · show execRead s = _
    exact (whileRunning_high h.running).trans (congrArg _ hadmits)
  · show execWrite s = _
    exact (whileRunning_high h.running).trans (congrArg _ hadmits)

/-! ## The window check (R85) -/

/-- The finding of the window check about an access that passes the other checks is its refusal, logged. -/
theorem State.Passes.exec_windowRefusal {s : State} {st : Fin 16} {q : QueuedFrame} {x : Status} {k : FaultKind}
    (h : s.Passes q.row st q) (hrow : q.row = .read ∨ q.row = .write)
    (hcheck : windowCheck (s.windows.covering (granuleOfAddr q.addr)) (q.kind == 2) = some (x, k)) :
    exec q.row.command s =
      .next (announce s ((s.answered st q x []).log (accessFault k st q.tag (lineOfAddr q.addr)))) := by
  rw [h.toSelects.exec_access hrow]
  simp only [State.admitAccess, h.commonCheck, hcheck]
  rfl

/-- Settles O14, by the three findings of R85. -/
theorem windowCheckRefuses : Obligations.WindowCheckRefuses := by
  intro s st q x k hrow h hfinding
  refine h.exec_windowRefusal hrow ?_
  rcases hfinding with ⟨hnone, rfl, rfl⟩ | ⟨⟨win, hwin, hkind⟩, rfl, rfl⟩ | ⟨⟨win, hwin, hkind, hprotected⟩, hwrite, rfl, rfl⟩
  · rw [hnone]
    rfl
  · rw [hwin]
    simp only [windowCheck, hkind]
  · rw [hwin]
    simp [windowCheck, hkind, hprotected, q.kind_of_access.2 hwrite]

/-- An access that passes every check is dispatched with its effective policy (R86, R112). -/
theorem State.Reaches.exec_dispatch {s : State} {st : Fin 16} {q : QueuedFrame} {r : Request} (h : s.Reaches st q r) :
    exec q.row.command s = .next (s.dispatchAccess st q r) := by
  obtain ⟨hrow, hpasses, win, hwin, hfar, hprotected, rfl⟩ := h
  have hcheck : windowCheck (some win) (q.kind == 2) = none := by
    have hallowed : ¬ (win.isProtected = true ∧ (q.kind == 2) = true) := fun ⟨hprot, hkind⟩ => by
      have hread := q.kind_of_access.1 (hprotected hprot)
      rw [hread] at hkind
      cases hkind
    simp only [windowCheck, hfar, hallowed, if_false]
  rw [hpasses.toSelects.exec_access hrow]
  simp only [State.admitAccess, hpasses.commonCheck, hwin, hcheck]
  rfl

theorem State.Reaches.tag {s : State} {st : Fin 16} {q : QueuedFrame} {r : Request} (h : s.Reaches st q r) :
    r.tag = q.tag := by
  obtain ⟨_, _, _, _, _, _, rfl⟩ := h
  rfl

theorem State.Reaches.isWrite {s : State} {st : Fin 16} {q : QueuedFrame} {r : Request} (h : s.Reaches st q r) :
    (q.row = .read → r.isWrite = false) ∧ (q.row = .write → r.isWrite = true) := by
  obtain ⟨_, _, _, _, _, _, rfl⟩ := h
  refine ⟨fun hrow => ?_, fun hrow => ?_⟩
  · show (q.kind == 2) = false
    rw [q.kind_of_access.1 hrow]
    rfl
  · show (q.kind == 2) = true
    rw [q.kind_of_access.2 hrow]
    rfl

/-! ## The table of section 1.7 (R14 to R17) -/

/-- The work of a request, by its policy, its kind and the state of its line. -/
theorem State.work_table (s : State) (r : Request) :
    (r.policy = .writeBack ∨ r.policy = .writeThrough → r.isWrite = false →
      s.work r = if s.lookupState r.line = .invalid then some .fetchS else none) ∧
    (r.policy = .writeBack → r.isWrite = true → s.work r =
      if s.lookupState r.line = .invalid then some .fetchO
      else if s.lookupState r.line = .shared then some .upgrade else none) ∧
    (r.policy = .writeThrough → r.isWrite = true → s.work r =
      if s.lookupState r.line = .invalid ∨ s.lookupState r.line = .shared then some .directWrite else none) ∧
    (¬ (r.policy = .writeBack ∨ r.policy = .writeThrough) → s.work r =
      if ¬ s.lookupState r.line = .invalid then some .purgeDirect
      else if r.isWrite = true then some .directWrite else some .directRead) := by
  unfold State.work
  refine ⟨fun hpolicy hread => ?_, fun hpolicy hwrite => ?_, fun hpolicy hwrite => ?_, fun hpolicy => ?_⟩
  · rw [hread]
    rcases hpolicy with hpolicy | hpolicy <;> rw [hpolicy] <;> cases s.lookupState r.line <;> rfl
  · rw [hpolicy, hwrite]
    cases s.lookupState r.line <;> rfl
  · rw [hpolicy, hwrite]
    cases s.lookupState r.line <;> rfl
  · cases hp : r.policy with
    | writeBack => exact absurd (Or.inl hp) hpolicy
    | writeThrough => exact absurd (Or.inr hp) hpolicy
    | bypass => cases r.isWrite <;> cases s.lookupState r.line <;> rfl
    | bypassOrdered => cases r.isWrite <;> cases s.lookupState r.line <;> rfl

theorem State.lookupState_of_some {s : State} {l : LineAddr} {w : WayRef} (h : s.lookup l = some w) :
    s.lookupState l = (s.line w).state := by
  simp only [State.lookupState, h]

/-! ## Hits (R14, R15, R115) -/

/-- A request that names no tracker work is answered at once. -/
theorem State.dispatchAccess_hit {s : State} {st : Fin 16} {q : QueuedFrame} {r : Request}
    (hentry : s.entryNaming r.line = none) (hwork : s.work r = none) :
    s.dispatchAccess st q r = ((s.take st).hit r).place (.completion st r.tag .ok (s.hitWords r)) := by
  simp only [State.dispatchAccess, hentry, hwork]

/-- Settles O20: the hit changes nothing in the store. -/
theorem readHitReturnsTheBytes : Obligations.ReadHitReturnsTheBytes := by
  intro s st q r w h hrow hentry hpolicy hw
  have hread := h.isWrite.1 hrow
  have hwork : s.work r = none := by
    rw [(s.work_table r).1 hpolicy hread, State.lookupState_of_some hw]
    exact if_neg (State.holdsLine_of_lookup hw).2.1
  have hhit : (s.take st).hit r = s.take st := by
    have hw' : (s.take st).lookup r.line = some w := hw
    simp only [State.hit, hw', hread, Bool.false_eq_true, if_false]
  have hwords : s.hitWords r = if r.size = .b64 then (s.line w).data.toList
      else [(s.line w).data[wordIndex r.addr] &&& laneMask r.addr r.size] := by
    simp only [State.hitWords, hw, hread, Bool.false_eq_true, if_false]
    cases r.size <;> rfl
  have hexec := h.exec_dispatch
  rw [hrow, State.dispatchAccess_hit hentry hwork, hhit, hwords, h.tag] at hexec
  exact hexec

/-- Settles O21: the way is written, and the completion placed beside it. -/
theorem writeHitStoresAndMarks : Obligations.WriteHitStoresAndMarks := by
  intro s st q r w h hrow hentry hpolicy hw howned
  have hwrite := h.isWrite.2 hrow
  have hwork : s.work r = none := by
    have hstate := State.lookupState_of_some hw
    rcases hpolicy with hpolicy | hpolicy
    · rw [(s.work_table r).2.1 hpolicy hwrite, hstate]
      rcases howned with howned | howned <;> rw [howned] <;> rfl
    · rw [(s.work_table r).2.2.1 hpolicy hwrite, hstate]
      rcases howned with howned | howned <;> rw [howned] <;> rfl
  have hhit : (s.take st).hit r = (s.take st).setLine w ((s.line w).writeHit r) := by
    have hw' : (s.take st).lookup r.line = some w := hw
    simp only [State.hit, hw', hwrite, if_true]
    rfl
  have hwords : s.hitWords r = [] := by simp only [State.hitWords, hw, hwrite, if_true]
  have hexec := h.exec_dispatch
  rw [hrow, State.dispatchAccess_hit hentry hwork, hhit, hwords, h.tag] at hexec
  exact hexec

/-! ## Parked, refused, left (R51, R52, R108, R112, R114) -/

/-- Settles O23, by what stands in the way of the access. -/
theorem accessParkedRefusedOrLeft : Obligations.AccessParkedRefusedOrLeft := by
  intro s st q r h
  rw [h.exec_dispatch]
  refine ⟨fun n e hentry he => ⟨fun hfew => ?_, fun hfull => ?_⟩, fun k hentry hwork => ⟨fun hdown => ?_, fun hup hnone => ?_⟩⟩
  · simp only [State.dispatchAccess, hentry, State.park, he]
    rw [if_pos hfew, h.tag, State.take_begun]
  · simp only [State.dispatchAccess, hentry, State.park, he]
    rw [if_neg (Nat.not_lt.2 hfull)]
    rfl
  · have hlink : s.linkUp = false := by rw [← Bool.not_eq_true, State.linkUp_iff]; exact hdown
    simp only [State.dispatchAccess, hentry, hwork, hlink, if_true]
    rfl
  · simp only [State.dispatchAccess, hentry, hwork, s.linkUp_iff.2 hup, Bool.true_eq_false, if_false, hnone]
    rfl

/-! ## The creation of an entry (R51) -/

/-- The entry that an admission creates, before its steps. -/
def TrackerEntry.created (epoch : BitVec 16) (k : EntryKind) (r : Request) (stored : Bool) : TrackerEntry where
  line := r.line
  kind := k
  phase := .waiting .lineInSlot
  way := none
  victim := none
  attempts := 0
  converted := false
  epoch := epoch
  parked := [r]
  lastTag := none
  storedShared := stored
  answer := .none
  wake := false

theorem State.storeThrough_nothing {s : State} {k : EntryKind} {r : Request}
    (h : k ≠ .directWrite ∨ s.lookup r.line = none) : s.storeThrough k r = s ∧ s.storesThrough k r = false := by
  unfold State.storeThrough State.storesThrough
  rcases h with hk | habsent
  · refine ⟨?_, by simp [hk]⟩
    cases k
    case directWrite => exact absurd rfl hk
    all_goals rfl
  · rw [habsent]
    exact ⟨by cases k <;> rfl, by simp⟩

theorem State.storeThrough_stores {s : State} {r : Request} {w : WayRef} (hw : s.lookup r.line = some w) :
    s.storeThrough .directWrite r = s.setLine w { s.line w with
      data := storeBytes (s.line w).data r.addr r.size r.data } ∧ s.storesThrough .directWrite r = true := by
  simp only [State.storeThrough, State.storesThrough, hw]
  exact ⟨rfl, rfl⟩

/-- The entry is created as it is, or after a WRITE-THROUGH store into the line (R16). -/
theorem State.createEntry_eq (s : State) (n : Fin 12) (k : EntryKind) (r : Request) :
    (k ≠ .directWrite ∨ s.lookup r.line = none →
      s.createEntry n k r = (s.setEntry n (some (.created s.windows.epoch k r false))).step1 n) ∧
    ∀ w, s.lookup r.line = some w → s.createEntry n .directWrite r =
      ((s.setLine w { s.line w with data := storeBytes (s.line w).data r.addr r.size r.data }).setEntry n
        (some (.created s.windows.epoch .directWrite r true))).step1 n := by
  unfold State.createEntry
  refine ⟨fun h => ?_, fun w hw => ?_⟩
  · obtain ⟨hstate, hstored⟩ := State.storeThrough_nothing h
    rw [hstate, hstored]
    rfl
  · obtain ⟨hstate, hstored⟩ := State.storeThrough_stores hw
    rw [hstate, hstored]
    rfl

/-- Work for which an entry is free creates the entry (R112, R113). -/
theorem State.Reaches.exec_creates {s : State} {st : Fin 16} {q : QueuedFrame} {r : Request} {k : EntryKind} {n : Fin 12}
    (h : s.Reaches st q r) (hentry : s.entryNaming r.line = none) (hwork : s.work r = some k) (hup : s.dlink.state = .up)
    (hfree : s.freeEntry = some n) : exec q.row.command s = .next ((s.begun st q).createEntry n k r) := by
  rw [h.exec_dispatch]
  simp only [State.dispatchAccess, hentry, hwork, s.linkUp_iff.2 hup, Bool.true_eq_false, if_false, hfree]
  rw [h.tag, State.take_begun]

/-! ## Entries that issue in the step of their admission (R57 to R59) -/

theorem State.setEntry_setEntry (s : State) (n : Fin 12) (a b : Option TrackerEntry) :
    (s.setEntry n a).setEntry n b = s.setEntry n b := by
  unfold State.setEntry
  dsimp only
  rw [Vector.set_set]

/-- Step 4 of an entry just written, with the D-link UP and a tag FREE. -/
theorem State.step4_setEntry {s : State} {n : Fin 12} {t : Fin 32} {e : TrackerEntry} {p : BridgePacket}
    (hup : s.dlink.state = .up) (htag : s.freeTag = some t) (hp : e.packet t = some p) :
    (s.setEntry n (some e)).step4 n = { s.setEntry n (some {
        e with phase := .issued t, attempts := e.attempts + 1, lastTag := some t }) with
      dlink := { s.dlink with
        tags := s.dlink.tags.set t (.inUse (.entry n) s.dlink.timeout), tx := s.dlink.tx ++ [p] } } := by
  rw [State.step4_issues (s.entry_setEntry_same n _) hup htag hp]
  unfold State.setEntry
  dsimp only
  rw [Vector.set_set]

theorem State.reserveWay_setEntry (s : State) (n m : Fin 12) (e : Option TrackerEntry) (w : WayRef) (moves : Bool) :
    (s.setEntry m e).reserveWay n w moves = (s.reserveWay n w moves).setEntry m e := by
  cases moves <;> rfl

theorem State.reserveWay_dlink (s : State) (n : Fin 12) (w : WayRef) (moves : Bool) :
    (s.reserveWay n w moves).dlink = s.dlink := by
  cases moves <;> rfl

theorem State.freeTag_congr {s b : State} (h : b.dlink = s.dlink) : b.freeTag = s.freeTag := by
  unfold State.freeTag State.tag
  rw [h]

theorem State.chooseWay_congr {s b : State} (h : b.store = s.store) (set : Fin 128) : b.chooseWay set = s.chooseWay set := by
  unfold State.chooseWay State.line State.victim
  rw [h]

/-- Victim choice of an entry just written, for a way whose line needs no slot, goes on to issue (R9, R10, R59). -/
theorem State.victimStep_setEntry {s : State} {n : Fin 12} {t : Fin 32} {e : TrackerEntry} {v : Fin 4} {moves : Bool}
    {p : BridgePacket} (hup : s.dlink.state = .up) (htag : s.freeTag = some t)
    (hchoice : s.chooseWay (setOf e.line) = some (v, moves))
    (hopen : ¬ ((s.line ⟨setOf e.line, v⟩).state = .owned ∨ (s.line ⟨setOf e.line, v⟩).state = .modified))
    (hp : TrackerEntry.packet { e with way := some ⟨setOf e.line, v⟩, wake := false } t = some p) :
    (s.setEntry n (some e)).victimStep n = { (s.reserveWay n ⟨setOf e.line, v⟩ moves).setEntry n (some { e with
        phase := .issued t, way := some ⟨setOf e.line, v⟩, attempts := e.attempts + 1, lastTag := some t
        wake := false }) with
      dlink := { s.dlink with
        tags := s.dlink.tags.set t (.inUse (.entry n) s.dlink.timeout), tx := s.dlink.tx ++ [p] } } := by
  have hdlink := s.reserveWay_dlink n ⟨setOf e.line, v⟩ moves
  have hplain := (State.victimStep_of_choice (s.entry_setEntry_same n (some e)) hchoice).1 hopen
  rw [hplain, State.reserveWay_setEntry, State.setEntry_setEntry,
    State.step4_setEntry (by rw [hdlink]; exact hup) ((State.freeTag_congr hdlink).trans htag) hp, hdlink]

/-- An entry just created passes step 1 where no slot keeps it (R53). -/
theorem State.not_stuck_created {s : State} {e : TrackerEntry}
    (hslots : ∀ j sl, s.slot j = some sl → sl.line = e.line → sl.kind = .flush)
    (hway : (e.kind = .upgrade ∨ e.kind = .purgeDirect) → ∀ w j, s.lookup e.line = some w → (s.line w).holder ≠ .slot j) :
    ¬ s.Stuck e := by
  rintro (⟨j, sl, hsl, hline, hflush⟩ | ⟨hkind, w, j, hw, hholder⟩)
  · exact hflush (hslots j sl hsl hline)
  · exact hway hkind w j hw hholder

/-- Settles O24: the way is reserved and the entry issues. -/
theorem fetchMissIssuesInItsStep : Obligations.FetchMissIssuesInItsStep := by
  intro s st q r k n t v moves h hentry hwork hkind hup hfree htag hslots hchoice
  dsimp only
  intro hstate
  have hnotWrite : k ≠ .directWrite := by rcases hkind with rfl | rfl <;> decide
  have hnoHold : ¬ (k = .upgrade ∨ k = .purgeDirect) := by rcases hkind with rfl | rfl <;> decide
  have hopen : ¬ ((s.line ⟨setOf r.line, v⟩).state = .owned ∨ (s.line ⟨setOf r.line, v⟩).state = .modified) := by
    rcases hstate with hstate | hstate <;> rw [hstate] <;> decide
  set e : TrackerEntry := .created s.windows.epoch k r false
  have hclear : ¬ ((s.begun st q).setEntry n (some e)).Stuck e :=
    State.not_stuck_created hslots fun hk => absurd hk hnoHold
  have hpacket : TrackerEntry.packet { e with way := some ⟨setOf e.line, v⟩, wake := false } t =
      some (if k = .fetchS then .getS t r.line else .getO t r.line) := by
    rcases hkind with rfl | rfl <;> rfl
  have hcreated := ((s.begun st q).createEntry_eq n k r).1 (Or.inl hnotWrite)
  have hfetch := (State.step1_of_clear (State.entry_setEntry_same _ n _) hclear).2.2.1 hkind
  have hissue := State.victimStep_setEntry (s := s.begun st q) (n := n) (e := e) hup ((State.freeTag_congr rfl).trans htag)
    ((State.chooseWay_congr rfl _).trans hchoice) hopen hpacket
  rw [h.exec_creates hentry hwork hup hfree, hcreated]
  refine congrArg _ (hfetch.trans ((if_pos rfl).trans (hissue.trans ?_)))
  rfl

/-! ## Entries by the table of section 1.7 -/

theorem State.entryNaming_eq_none_iff (s : State) (l : LineAddr) :
    s.entryNaming l = none ↔ ∀ n e, s.entry n = some e → e.line ≠ l := by
  rw [← Option.not_isSome_iff_eq_none, State.entryNaming_isSome]
  exact ⟨fun h n e he hline => h ⟨n, e, he, hline⟩, fun h ⟨n, e, he, hline⟩ => h n e he hline⟩

/-- A direct entry just written goes straight to issue (R59). -/
theorem State.step1_direct_issues {b : State} {n : Fin 12} {t : Fin 32} {e : TrackerEntry} {p : BridgePacket}
    (hkind : e.kind = .directRead ∨ e.kind = .directWrite)
    (hslots : ∀ j sl, b.slot j = some sl → sl.line = e.line → sl.kind = .flush) (hup : b.dlink.state = .up)
    (htag : b.freeTag = some t) (hp : e.packet t = some p) :
    (b.setEntry n (some e)).step1 n = { b.setEntry n (some {
        e with phase := .issued t, attempts := e.attempts + 1, lastTag := some t }) with
      dlink := { b.dlink with
        tags := b.dlink.tags.set t (.inUse (.entry n) b.dlink.timeout), tx := b.dlink.tx ++ [p] } } := by
  have hclear : ¬ (b.setEntry n (some e)).Stuck e := State.not_stuck_created hslots fun hhold => by
    rcases hkind with hk | hk <;> rw [hk] at hhold <;> simp at hhold
  rw [(State.step1_of_clear (b.entry_setEntry_same n _) hclear).2.1 hkind, State.step4_setEntry hup htag hp]

/-- An UPGRADE entry just written takes its hold and issues (R57, R59). -/
theorem State.step1_upgrade_issues {b : State} {n : Fin 12} {t : Fin 32} {e : TrackerEntry} {w : WayRef}
    (hkind : e.kind = .upgrade) (hconverted : e.converted = false)
    (hslots : ∀ j sl, b.slot j = some sl → sl.line = e.line → sl.kind = .flush) (hw : b.lookup e.line = some w)
    (hholder : ∀ j, (b.line w).holder ≠ .slot j) (hup : b.dlink.state = .up) (htag : b.freeTag = some t) :
    (b.setEntry n (some e)).step1 n = { (b.setLine w { b.line w with holder := .entry n }).setEntry n (some {
        e with phase := .issued t, way := some w, attempts := e.attempts + 1, lastTag := some t }) with
      dlink := { b.dlink with
        tags := b.dlink.tags.set t (.inUse (.entry n) b.dlink.timeout), tx := b.dlink.tx ++ [.upgrade t e.line] } } := by
  have hw' : (b.setEntry n (some e)).lookup e.line = some w := (State.lookup_congr_store rfl _).trans hw
  have hclear : ¬ (b.setEntry n (some e)).Stuck e := State.not_stuck_created hslots fun _ x j hx => by
    cases hw'.symm.trans hx
    exact hholder j
  have hpacket : TrackerEntry.packet { e with way := some w } t = some (.upgrade t e.line) := by
    simp only [TrackerEntry.packet, hkind, hconverted, Bool.false_eq_true, if_false]
  have hstep := (State.step1_of_clear (b.entry_setEntry_same n _) hclear).1 hkind
  rw [State.holdUpgrade_eq (b.entry_setEntry_same n _) hw'] at hstep
  have hwritten : ((b.setEntry n (some e)).setLine w { (b.setEntry n (some e)).line w with holder := .entry n }).setEntry n
      (some { e with way := some w }) =
      (b.setLine w { b.line w with holder := .entry n }).setEntry n (some { e with way := some w }) :=
    State.setEntry_setEntry (b.setLine w { b.line w with holder := .entry n }) n _ _
  have hissued := State.step4_setEntry (n := n) (s := b.setLine w { b.line w with holder := .entry n }) hup
    ((State.freeTag_congr rfl).trans htag) hpacket
  exact (hstep.trans (congrArg (State.step4 · n) hwritten)).trans hissued

/-- Settles O25: the table, the lowest free entry, the entry created, and the kinds that issue in the step. -/
theorem newEntriesFollowTheTable : Obligations.NewEntriesFollowTheTable := by
  refine ⟨fun s r => s.work_table r, State.freeEntry_iff, State.entryNaming_eq_none_iff,
    fun s st q r k n h hentry hwork hup hfree => ?_, fun s st q r n t h hentry hup hfree htag hslots => ?_⟩
  · obtain ⟨hplain, hstores⟩ := (s.begun st q).createEntry_eq n k r
    rw [h.exec_creates hentry hwork hup hfree]
    refine ⟨fun hnothing => congrArg _ (hplain hnothing), fun w hk hw => ?_⟩
    subst hk
    exact congrArg _ (hstores w hw)
  · have hexec {k : EntryKind} (hwork : s.work r = some k) := h.exec_creates hentry hwork hup hfree
    have htag' : (s.begun st q).freeTag = some t := (State.freeTag_congr rfl).trans htag
    refine ⟨fun w hwork hw hholder => ?_, fun hwork => ?_, fun hwork habsent => ?_, fun w hwork hw => ?_⟩
    · rw [hexec hwork, ((s.begun st q).createEntry_eq n .upgrade r).1 (Or.inl (by decide))]
      exact congrArg _ (State.step1_upgrade_issues (b := s.begun st q) rfl rfl hslots hw hholder hup htag')
    · rw [hexec hwork, ((s.begun st q).createEntry_eq n .directRead r).1 (Or.inl (by decide))]
      exact congrArg _ (State.step1_direct_issues (b := s.begun st q) (Or.inl rfl) hslots hup htag' rfl)
    · rw [hexec hwork, ((s.begun st q).createEntry_eq n .directWrite r).1 (Or.inr habsent)]
      exact congrArg _ (State.step1_direct_issues (b := s.begun st q) (Or.inr rfl) hslots hup htag' rfl)
    · rw [hexec hwork, ((s.begun st q).createEntry_eq n .directWrite r).2 w hw]
      exact congrArg _ (State.step1_direct_issues
        (b := (s.begun st q).setLine w { s.line w with data := storeBytes (s.line w).data r.addr r.size r.data }) (Or.inr rfl)
        hslots hup htag' rfl)

end Sys2Proof.Machine
end

section
/-! PROOFS. The management unit (chapters 8 and 10): what each write replaces, and what the actions that need no engine do. -/

namespace Sys2Proof.Machine

-- Proofs are elaborated one after another: the threads of proofs that wait for each other do not fit the memory of the check.
set_option Elab.async false

open Sys2Proof (Word)

/-! ## Codes read from a word -/

theorem Policy.ofCode_eq_some_iff (n : Nat) (p : Policy) : Policy.ofCode n = some p ↔ p.code = n := by
  unfold Policy.ofCode
  split <;> cases p <;> simp_all [Policy.code, eq_comm]

theorem WindowKind.ofCode_eq_some_iff (n : Nat) (k : WindowKind) : WindowKind.ofCode n = some k ↔ k.code = n := by
  unfold WindowKind.ofCode
  split <;> cases k <;> simp_all [WindowKind.code, eq_comm]

theorem Ceiling.ofCode_eq_some_iff (n : Nat) (c : Ceiling) : Ceiling.ofCode n = some c ↔ c.code = n := by
  unfold Ceiling.ofCode
  split <;> cases c <;> simp_all [Ceiling.code, eq_comm]

theorem Policy.ofCode_eq_none_iff (n : Nat) : Policy.ofCode n = none ↔ 3 < n := by
  unfold Policy.ofCode
  split <;> simp_all
  omega

theorem WindowKind.ofCode_eq_none_iff (n : Nat) : WindowKind.ofCode n = none ↔ 2 ≤ n := by
  unfold WindowKind.ofCode
  split <;> simp_all
  omega

theorem Ceiling.ofCode_eq_none_iff (n : Nat) : Ceiling.ofCode n = none ↔ 3 ≤ n := by
  unfold Ceiling.ofCode
  split <;> simp_all
  omega

/-! ## Stream records (R101) -/

/-- The written depth, as a number, is within 1 to 16 or it is refused. -/
theorem depth_refused_iff (w : Word) :
    (field w 8 5 = 0 ∨ 16 < (field w 8 5).toNat) ↔ ¬ (1 ≤ bits w 8 5 ∧ bits w 8 5 ≤ 16) := by
  have hzero : field w 8 5 = 0 ↔ bits w 8 5 = 0 := by
    rw [← field_toNat w 8 5]
    exact BitVec.toNat_eq.trans Iff.rfl
  rw [hzero, field_toNat]
  omega

/-- A write would close stream 0 or take its MANAGE right unless both low bits are set. -/
theorem closes_iff (w : Word) : (flag w 0 = false ∨ flag w 1 = false) ↔ bits w 0 2 ≠ 3 := by
  rw [flag_eq, flag_eq, decide_eq_false_iff_not, decide_eq_false_iff_not]
  unfold bits
  omega

theorem writtenStream_of_good {n : Fin 16} {r : StreamRecord} {w : Word} {p : Policy} (hlow : 1 ≤ bits w 8 5)
    (hhigh : bits w 8 5 ≤ 16) (hzero : n = 0 → bits w 0 2 = 3) (hp : p.code = bits w 2 3) :
    writtenStream n r w = some { r with
      isOpen := bits w 0 1 = 1, manage := bits w 1 1 = 1, policy := p, depth := BitVec.ofNat 5 (bits w 8 5) } := by
  have hdepth : ¬ (field w 8 5 = 0 ∨ 16 < (field w 8 5).toNat) := fun h => (depth_refused_iff w).1 h ⟨hlow, hhigh⟩
  have hkeeps : ¬ (n = 0 ∧ (flag w 0 = false ∨ flag w 1 = false)) := fun h => (closes_iff w).1 h.2 (hzero h.1)
  simp only [writtenStream, (Policy.ofCode_eq_some_iff _ p).2 hp, if_neg hdepth, if_neg hkeeps]
  rw [flag_eq, flag_eq, field]

theorem writtenStream_of_bad {n : Fin 16} {r : StreamRecord} {w : Word}
    (hbad : ¬ (1 ≤ bits w 8 5 ∧ bits w 8 5 ≤ 16 ∧ bits w 2 3 ≤ 3 ∧ (n = 0 → bits w 0 2 = 3))) :
    writtenStream n r w = none := by
  cases hp : Policy.ofCode (bits w 2 3) with
  | none => simp only [writtenStream, hp]
  | some p =>
    have hpolicy : bits w 2 3 ≤ 3 := by
      by_contra hlarge
      have hnone := (Policy.ofCode_eq_none_iff (bits w 2 3)).2 (by omega)
      rw [hp] at hnone
      cases hnone
    simp only [writtenStream, hp]
    by_cases hdepth : field w 8 5 = 0 ∨ 16 < (field w 8 5).toNat
    · rw [if_pos hdepth]
    · have hgood : 1 ≤ bits w 8 5 ∧ bits w 8 5 ≤ 16 := not_not.1 fun h => hdepth ((depth_refused_iff w).2 h)
      have hcloses : n = 0 ∧ bits w 0 2 ≠ 3 := by
        by_contra hkeeps
        exact hbad ⟨hgood.1, hgood.2, hpolicy, fun hn => not_not.1 fun h => hkeeps ⟨hn, h⟩⟩
      rw [if_neg hdepth, if_pos ⟨hcloses.1, (closes_iff w).2 hcloses.2⟩]

/-- Settles O29, by the two outcomes of reading the written word. -/
theorem streamRecordWriteReplacesTheSettings : Obligations.StreamRecordWriteReplacesTheSettings := by
  intro s st q n h hindex
  have htarget : Fin.ofNat 16 q.index = n := by rw [hindex, Fin.ofNat_val_eq_self]
  have hexec : exec .streamRecordWrite s = execStreamRecordWrite s := rfl
  rw [execStreamRecordWrite, whileRunning_high h.running, h.admitMgmt] at hexec
  simp only [htarget] at hexec
  refine ⟨fun p ⟨hlow, hhigh, _, hzero⟩ hp => ?_, fun hbad => ?_⟩
  · rw [hexec, writtenStream_of_good hlow hhigh hzero hp]
    rfl
  · rw [hexec, writtenStream_of_bad hbad]
    rfl

/-! ## Staging records (R81, R173) -/

theorem WindowRecord.withRange_eq (r : WindowRecord) (w : Word) : r.withRange w = { r with
    inUse := bits w 0 1 = 1, start := BitVec.ofNat 28 (bits w 4 28), last := BitVec.ofNat 28 (bits w 32 28) } := by
  simp only [WindowRecord.withRange, flag_eq]
  rfl

theorem WindowRecord.withAttributes_of_codes (r : WindowRecord) {w : Word} {k : WindowKind} {c : Ceiling}
    (hk : k.code = bits w 0 2) (hc : c.code = bits w 4 2) :
    r.withAttributes w = some { r with kind := k, ceiling := c, isProtected := bits w 8 1 = 1 } := by
  simp only [WindowRecord.withAttributes, (WindowKind.ofCode_eq_some_iff _ k).2 hk, (Ceiling.ofCode_eq_some_iff _ c).2 hc,
    flag_eq]

theorem WindowRecord.withAttributes_eq_none (r : WindowRecord) {w : Word} (h : 2 ≤ bits w 0 2 ∨ bits w 4 2 = 3) :
    r.withAttributes w = none := by
  rcases h with hkind | hceiling
  · simp only [WindowRecord.withAttributes, (WindowKind.ofCode_eq_none_iff _).2 hkind]
  · cases hkind : WindowKind.ofCode (bits w 0 2) <;>
      simp only [WindowRecord.withAttributes, (Ceiling.ofCode_eq_none_iff _).2 hceiling.ge, hkind]

/-- Settles O30, by the two words of a staging record. -/
theorem stagingWindowWriteReplacesOneWord : Obligations.StagingWindowWriteReplacesOneWord := by
  intro s st q k h
  have hexec : exec .stagingWindowWrite s = execStagingWindowWrite s := rfl
  rw [execStagingWindowWrite, whileRunning_high h.running, h.admitMgmt] at hexec
  have hattribute (hindex : q.index = 32 + k.val) : ¬ q.index ≤ 23 ∧ Fin.ofNat 24 (q.index - 32) = k := by
    refine ⟨by omega, ?_⟩
    rw [hindex, Nat.add_sub_cancel_left, Fin.ofNat_val_eq_self]
  refine ⟨fun hindex => ?_, fun x c hindex hx hc => ?_, fun hindex hbad => ?_⟩
  · have hk : Fin.ofNat 24 q.index = k := by rw [hindex, Fin.ofNat_val_eq_self]
    have hrange : q.index ≤ 23 := by omega
    simp only [hrange, if_true, hk, WindowRecord.withRange_eq] at hexec
    exact hexec
  · obtain ⟨hword, hk⟩ := hattribute hindex
    simp only [hword, if_false, hk, WindowRecord.withAttributes_of_codes _ hx hc] at hexec
    exact hexec
  · obtain ⟨hword, hk⟩ := hattribute hindex
    simp only [hword, if_false, hk, WindowRecord.withAttributes_eq_none _ hbad] at hexec
    exact hexec

/-! ## The LINE-STORE control and the D-link settings (R87, R159) -/

/-- A head of the D-link row names the timeout or the retry limit (R167). -/
theorem QueuedFrame.index_of_mgmtWrite {q : QueuedFrame} (h : q.row = .mgmtWrite) : q.index = 1 ∨ q.index = 2 := by
  obtain ⟨hread, hwrite, hmread, hmwrite, hact, hnone⟩ := q.row_of_kind
  have hkind : q.kind = 1 ∨ q.kind = 2 ∨ q.kind = 3 ∨ q.kind = 4 ∨ q.kind = 5 ∨ (q.kind = 0 ∨ 6 ≤ q.kind) := by omega
  rcases hkind with hkind | hkind | hkind | hkind | hkind | hkind
  · exact nomatch (hread hkind).symm.trans h
  · exact nomatch (hwrite hkind).symm.trans h
  · have hrow := (hmread hkind).symm.trans h
    split_ifs at hrow
  · have hrow := (hmwrite hkind).symm.trans h
    unfold writeRow at hrow
    split at hrow
    case h_5 => split_ifs at hrow; assumption
    case h_6 => cases hrow
    all_goals split_ifs at hrow
  · have hrow := (hact hkind).symm.trans h
    unfold actRow at hrow
    split at hrow <;> cases hrow
  · exact nomatch (hnone hkind).symm.trans h

/-- Settles O31, by the setting the head names and the value it writes. -/
theorem controlAndLinkSettingsWrites : Obligations.ControlAndLinkSettingsWrites := by
  refine ⟨fun s st q h => ?_, fun s st q h => ?_⟩
  · show execLineStoreControlWrite s = _
    rw [execLineStoreControlWrite, whileRunning_high h.running, h.admitMgmt, flag_eq]
    rfl
  · have hexec : exec .mgmtWrite s = execMgmtWrite s := rfl
    rw [execMgmtWrite, whileRunning_high h.running, h.admitMgmt] at hexec
    rcases QueuedFrame.index_of_mgmtWrite h.row with hindex | hindex
    · have hzero : field q.value 0 8 = 0 ↔ bits q.value 0 8 = 0 := by
        rw [← field_toNat q.value 0 8]
        exact BitVec.toNat_eq.trans Iff.rfl
      simp only [hindex, if_true, hzero] at hexec
      by_cases hvalue : bits q.value 0 8 = 0
      · rw [if_pos hvalue] at hexec
        exact Or.inr (Or.inr ⟨Or.inl ⟨hindex, hvalue⟩, hexec⟩)
      · rw [if_neg hvalue] at hexec
        exact Or.inl ⟨hindex, hvalue, hexec⟩
    · have hother : ¬ (2 = 1) := by decide
      simp only [hindex, hother, if_false, field_toNat] at hexec
      by_cases hvalue : 7 < bits q.value 0 4
      · rw [if_pos hvalue] at hexec
        exact Or.inr (Or.inr ⟨Or.inr ⟨hindex, hvalue⟩, hexec⟩)
      · rw [if_neg hvalue] at hexec
        exact Or.inr (Or.inl ⟨hindex, Nat.not_lt.1 hvalue, hexec⟩)

/-! ## Notice sources (R186) -/

theorem NoticeSource.written_turnedOn {n : NoticeSource} (henable : n.enable = false) (hmark : n.mark = .none)
    (hstatus : n.status = true) (target : Fin 16) :
    n.written true target = { n with enable := true, target := target, mark := .pending } := by
  simp only [NoticeSource.written, henable, hmark, hstatus, if_true]

theorem NoticeSource.written_turnedOff {n : NoticeSource} (henable : n.enable = true) (hmark : n.mark = .pending)
    (target : Fin 16) : n.written false target = { n with enable := false, target := target, mark := .none } := by
  simp only [NoticeSource.written, henable, hmark]

theorem NoticeSource.written_otherwise {n : NoticeSource} {on : Bool}
    (hon : ¬ (n.enable = false ∧ on = true ∧ n.mark = .none ∧ n.status = true))
    (hoff : ¬ (n.enable = true ∧ on = false ∧ n.mark = .pending)) (target : Fin 16) :
    n.written on target = { n with enable := on, target := target } := by
  simp only [NoticeSource.written]
  split <;> simp_all

/-- Settles O32, by the three ways a write changes the mark. -/
theorem noticeSourceWriteMayMakeDue : Obligations.NoticeSourceWriteMayMakeDue := by
  intro s st q k h hindex
  have hk : Fin.ofNat 6 q.index = k := by rw [hindex, Fin.ofNat_val_eq_self]
  have hexec : exec .noticeSourceWrite s = execNoticeSourceWrite s := rfl
  have htarget : (field q.value 4 4).toFin = Fin.ofNat 16 (bits q.value 4 4) := rfl
  rw [execNoticeSourceWrite, whileRunning_high h.running, h.admitMgmt] at hexec
  have hstands : (s.take st).notice k = s.notice k := rfl
  simp only [hk, flag_eq, htarget, hstands] at hexec
  have hplaced (x : NoticeSource) (hx : x.mark = .pending → (s.notice k).mark = .pending) :
      announce (s.take st) (((s.take st).setNotice k x).answer st q .ok []) = (s.answered st q .ok []).setNotice k x := by
    refine announce_of_not_due fun j hj => ?_
    by_cases hjk : j = k
    · subst hjk
      exact hx ((congrArg NoticeSource.mark (s.notice_setNotice_same j x)).symm.trans hj)
    · exact (congrArg NoticeSource.mark (State.notice_setNotice_of_ne s hjk x)).symm.trans hj
  refine ⟨fun henable hon hmark hstatus => ?_, fun henable hon hmark => ?_, fun hon hoff => ?_⟩
  · rw [hexec, hon, NoticeSource.written_turnedOn henable hmark hstatus]
    rfl
  · rw [hexec, hon, NoticeSource.written_turnedOff henable hmark]
    exact congrArg _ (hplaced _ (nomatch ·))
  · rw [hexec, NoticeSource.written_otherwise hon hoff]
    exact congrArg _ (hplaced _ id)

/-! ## Actions without the engine (R98, R182, R154) -/

/-- Settles O33. -/
theorem stagingReloadCopiesTheActiveCopy : Obligations.StagingReloadCopiesTheActiveCopy := by
  intro s st q h
  have hexec : exec .stagingReload s = execStagingReload s := rfl
  rw [execStagingReload, whileRunning_high h.running, h.admitMgmt] at hexec
  have hrecord (k : Fin 24) : s.windows.reloaded[k] = s.windows.activeView k.val := by
    simp [WindowTable.reloaded]
  refine ⟨s.windows.reloaded, hexec, fun k => ⟨fun hk => ?_, fun hk => ?_⟩⟩
  · rw [hrecord, s.windows.activeView_of_lt hk]
  · rw [hrecord, s.windows.activeView_of_ge hk]
    rfl

/-- The word of a FAULT-TAKE that took an entry: taken, and how many remain (section 10.2). -/
theorem takenWord_fields {n : Nat} (h : n ≤ 7) :
    bits (put 0 1 + put 8 n) 0 1 = 1 ∧ bits (put 0 1 + put 8 n) 1 7 = 0 ∧ bits (put 0 1 + put 8 n) 8 4 = n ∧
      bits (put 0 1 + put 8 n) 12 52 = 0 := by
  have hfit : FieldsFit 0 64 [⟨0, 1, 1⟩, ⟨8, 4, n⟩] := by
    simp only [FieldsFit]
    omega
  have hword : put 0 1 + put 8 n = layout [⟨0, 1, 1⟩, ⟨8, 4, n⟩] := by
    simp [layout_cons, layout_nil]
  rw [hword]
  exact ⟨bits_layout hfit rfl, bits_layout hfit rfl, bits_layout hfit rfl, bits_layout hfit rfl⟩

/-- Settles O35. -/
theorem faultTakeRemovesTheOldest : Obligations.FaultTakeRemovesTheOldest := by
  intro s st q h
  have hexec : exec .faultTake s = execFaultTake s := rfl
  rw [execFaultTake, whileRunning_high h.running, h.admitMgmt] at hexec
  refine ⟨fun hnone => ?_, fun f rest hsome hfew => ⟨put 0 1 + put 8 rest.length, ?_, takenWord_fields hfew⟩⟩
  · have hfaults : (s.take st).faults.entries = [] := hnone
    simp only [hfaults] at hexec
    exact hexec
  · have hfaults : (s.take st).faults.entries = f :: rest := hsome
    simp only [hfaults] at hexec
    exact hexec

/-- What a DLINK-RETRAIN does to the state whose completion it has placed, by the link state it finds (R154). -/
theorem State.retrain_eq (s : State) : s.retrain =
    if s.dlink.state = .up then s.downEvent.startTraining
    else if s.dlink.state = .training ∨ s.dlink.state = .faulted ∧ s.dlink.signal = true then s.startTraining
    else { s with dlink := { s.dlink with
      state := .down, trainingTimer := if s.dlink.state = .faulted then none else s.dlink.trainingTimer } } := by
  unfold State.retrain
  split
  case h_1 hstate => simp only [hstate, if_true]
  case h_2 hstate => simp only [hstate, reduceCtorEq, if_false, true_or, if_true]
  case h_3 hstate =>
    simp only [hstate, reduceCtorEq, if_false, false_or, true_and, if_true]
    rfl
  case h_4 hstate =>
    simp only [hstate, reduceCtorEq, if_false, false_or, false_and]
    rw [← hstate]

/-- The link state that a DLINK-RETRAIN answers with is the one it enters. -/
theorem DLink.retrained_eq (d : DLink) : d.retrained =
    if d.state = .up then .training
    else if d.state = .training ∨ d.state = .faulted ∧ d.signal = true then .training else .down := by
  unfold DLink.retrained
  split <;> simp_all

theorem State.startTraining_eq (s : State) : s.startTraining = { s with dlink := { s.dlink with
    state := .training, trainingTimer := some 10, tx := s.dlink.tx ++ [.hello] } } := rfl

/-- Settles O36, by the link state found. -/
theorem retrainByLinkState : Obligations.RetrainByLinkState := by
  intro s st q h
  show execDlinkRetrain s = _
  rw [execDlinkRetrain, whileRunning_high h.running, h.admitMgmt]
  refine congrArg (fun x => Host.Outcome.next (wrapUp (s.headTaken st) x)) ?_
  have hword (x : LinkState) : put 0 x.code = BitVec.ofNat 64 x.code := by simp [put]
  have hdlink : (s.take st).dlink = s.dlink := rfl
  have hanswered (x : LinkState) : (s.answered st q .ok [BitVec.ofNat 64 x.code]).dlink = s.dlink := rfl
  rw [State.retrain_eq, hword, hdlink, State.answer_take, hanswered, DLink.retrained_eq]
  by_cases hup : s.dlink.state = .up
  · simp only [hup, if_true, State.startTraining_eq]
  · simp only [hup, if_false]
    by_cases htrains : s.dlink.state = .training ∨ s.dlink.state = .faulted ∧ s.dlink.signal = true
    · simp only [htrains, if_true, State.startTraining_eq, hanswered]
    · simp only [htrains, if_false]

end Sys2Proof.Machine
end

section
/-! PROOFS. The maintenance engine (chapters 4 and 6): the actions that take it, and how a finished one reports. -/

namespace Sys2Proof.Machine

-- Proofs are elaborated one after another: the threads of proofs that wait for each other do not fit the memory of the check.
set_option Elab.async false

open Sys2Proof (Word LineAddr Granule)

/-! ## Validation of the staging copy (R90) -/

/-- Two non-empty windows overlap exactly when they share a granule. -/
theorem WindowRecord.overlaps_iff {a b : WindowRecord} (ha : a.start ≤ a.last) (hb : b.start ≤ b.last) :
    a.overlaps b = true ↔ ∃ g, (a.start ≤ g ∧ g ≤ a.last) ∧ (b.start ≤ g ∧ g ≤ b.last) := by
  unfold WindowRecord.overlaps
  rw [decide_eq_true_iff]
  constructor
  · rintro ⟨hab, hba⟩
    rcases BitVec.le_total a.start b.start with hstart | hstart
    · exact ⟨b.start, ⟨hstart, hba⟩, ⟨BitVec.le_refl _, hb⟩⟩
    · exact ⟨a.start, ⟨BitVec.le_refl _, ha⟩, ⟨hstart, hab⟩⟩
  · rintro ⟨g, ⟨hag, hga⟩, ⟨hbg, hgb⟩⟩
    exact ⟨BitVec.le_trans hag hgb, BitVec.le_trans hbg hga⟩

/-- The fault that validation finds in one record, `seen` being the in-use records of lower index. -/
def WindowRecord.fault (r : WindowRecord) (seen : List WindowRecord) : Option TableFault :=
  if r.inUse = false then none
  else if r.last < r.start then some .startAfterEnd
  else if seen.any (fun x => r.overlaps x) then some .overlap
  else none

theorem WindowRecord.fault_eq_some_iff (r : WindowRecord) (seen : List WindowRecord) (why : TableFault) :
    r.fault seen = some why ↔ r.inUse = true ∧ (r.last < r.start ∧ why = .startAfterEnd ∨
      ¬ r.last < r.start ∧ why = .overlap ∧ seen.any (fun x => r.overlaps x) = true) := by
  unfold WindowRecord.fault
  split_ifs with huse hempty hoverlap
  · simp [huse]
  · simp [huse, hempty, @eq_comm _ why]
  · simp only [huse, hempty, hoverlap]
    simp [@eq_comm _ why]
  · simp only [huse, hempty, hoverlap]
    simp

/-- The records that validation has seen when it comes to index `m` of a list. -/
def seenBefore (l : List WindowRecord) (m : Nat) (seen : List WindowRecord) : List WindowRecord :=
  ((l.take m).filter (·.inUse)).reverse ++ seen

theorem seenBefore_succ (r : WindowRecord) (rest : List WindowRecord) (m : Nat) (seen : List WindowRecord) :
    seenBefore (r :: rest) (m + 1) seen = seenBefore rest m (if r.inUse = true then r :: seen else seen) := by
  unfold seenBefore
  cases huse : r.inUse <;> simp [huse]

theorem mem_seenBefore_iff (l : List WindowRecord) (m : Nat) (x : WindowRecord) :
    x ∈ seenBefore l m [] ↔ ∃ j < m, l[j]? = some x ∧ x.inUse = true := by
  simp only [seenBefore, List.append_nil, List.mem_reverse, List.mem_filter, List.mem_take_iff_getElem]
  constructor
  · rintro ⟨⟨j, hj, rfl⟩, huse⟩
    exact ⟨j, by omega, List.getElem?_eq_getElem (by omega), huse⟩
  · rintro ⟨j, hj, hx, huse⟩
    obtain ⟨hlt, rfl⟩ := List.getElem?_eq_some_iff.1 hx
    exact ⟨⟨j, by omega, rfl⟩, huse⟩

/-- Validation looks at the front record, and goes on past one without a fault. -/
theorem validateFrom_cons (r : WindowRecord) (rest : List WindowRecord) (i : Nat) (seen : List WindowRecord) :
    (∀ why, r.fault seen = some why → validateFrom (r :: rest) i seen = some (i, why)) ∧
    (r.fault seen = none → validateFrom (r :: rest) i seen =
      validateFrom rest (i + 1) (if r.inUse = true then r :: seen else seen)) := by
  cases huse : r.inUse
  · simp [WindowRecord.fault, validateFrom, huse]
  · by_cases hempty : r.last < r.start
    · simp [WindowRecord.fault, validateFrom, huse, hempty]
    · by_cases hoverlap : seen.any (fun x => r.overlaps x) = true
      · simp only [WindowRecord.fault, validateFrom, huse, hempty, hoverlap]
        simp
      · simp only [WindowRecord.fault, validateFrom, huse, hempty, hoverlap]
        simp

/-- Without a fault at any index the list passes. -/
theorem validateFrom_of_no_fault (l : List WindowRecord) (i : Nat) (seen : List WindowRecord)
    (h : ∀ (m : Nat) (r : WindowRecord), l[m]? = some r → r.fault (seenBefore l m seen) = none) : validateFrom l i seen = none := by
  induction l generalizing i seen with
  | nil => rfl
  | cons r rest ih =>
    rw [(validateFrom_cons r rest i seen).2 (h 0 r rfl)]
    refine ih _ _ fun m x hx => ?_
    rw [← seenBefore_succ]
    exact h (m + 1) x hx

/-- The first index with a fault is the one that validation answers with. -/
theorem validateFrom_of_first_fault (l : List WindowRecord) (m i : Nat) (seen : List WindowRecord) {r : WindowRecord}
    {why : TableFault} (hr : l[m]? = some r) (hfault : r.fault (seenBefore l m seen) = some why)
    (hfirst : ∀ j < m, ∀ x : WindowRecord, l[j]? = some x → x.fault (seenBefore l j seen) = none) :
    validateFrom l i seen = some (i + m, why) := by
  induction l generalizing m i seen with
  | nil => cases hr
  | cons a rest ih =>
    cases m with
    | zero =>
      cases Option.some.inj hr
      exact (validateFrom_cons r rest i seen).1 why hfault
    | succ m =>
      rw [(validateFrom_cons a rest i seen).2 (hfirst 0 (Nat.succ_pos m) a rfl)]
      rw [seenBefore_succ] at hfault
      have hrest := ih m (i + 1) _ hr hfault fun j hj x hx => by
        rw [← seenBefore_succ]
        exact hfirst (j + 1) (Nat.succ_lt_succ hj) x hx
      rw [hrest, Nat.add_assoc, Nat.add_comm 1 m]

/-- Staging record `i` fails the validation with reason `why`, in the words of R90. -/
def WindowTable.Fails (t : WindowTable) (i : Fin 24) (why : TableFault) : Prop :=
  t.staging[i].inUse = true ∧
    (t.staging[i].last < t.staging[i].start ∧ why = .startAfterEnd ∨
      ¬ t.staging[i].last < t.staging[i].start ∧ why = .overlap ∧
        ∃ j < i, t.staging[j].inUse = true ∧ ∃ g, (t.staging[i].start ≤ g ∧ g ≤ t.staging[i].last) ∧
          (t.staging[j].start ≤ g ∧ g ≤ t.staging[j].last))

/-- An in-use record that does not fail covers at least one granule. -/
theorem WindowTable.start_le_last_of_not_fails {t : WindowTable} {i : Fin 24} (h : ∀ x, ¬ t.Fails i x)
    (huse : t.staging[i].inUse = true) : t.staging[i].start ≤ t.staging[i].last :=
  BitVec.not_lt.1 fun hempty => h .startAfterEnd ⟨huse, Or.inl ⟨hempty, rfl⟩⟩

theorem WindowTable.staging_getElem? (t : WindowTable) (i : Fin 24) : t.staging.toList[i.val]? = some t.staging[i] := by
  simp

theorem WindowTable.staging_index {t : WindowTable} {m : Nat} {r : WindowRecord} (h : t.staging.toList[m]? = some r) :
    ∃ i : Fin 24, i.val = m ∧ t.staging[i] = r := by
  obtain ⟨hlt, hr⟩ := List.getElem?_eq_some_iff.1 h
  exact ⟨⟨m, by simpa using hlt⟩, rfl, by simpa using hr⟩

/-- Behind records that do not fail, validation finds in a record what R90 says. -/
theorem WindowTable.fault_iff (t : WindowTable) (i : Fin 24) (hearlier : ∀ j < i, ∀ x, ¬ t.Fails j x) (why : TableFault) :
    t.staging[i].fault (seenBefore t.staging.toList i.val []) = some why ↔ t.Fails i why := by
  have hseen : ((seenBefore t.staging.toList i.val []).any fun x => t.staging[i].overlaps x) = true ↔
      ∃ j < i, t.staging[j].inUse = true ∧ t.staging[i].overlaps t.staging[j] = true := by
    simp only [List.any_eq_true, mem_seenBefore_iff]
    constructor
    · rintro ⟨x, ⟨m, hm, hx, huse⟩, hoverlap⟩
      obtain ⟨j, rfl, rfl⟩ := WindowTable.staging_index hx
      exact ⟨j, hm, huse, hoverlap⟩
    · rintro ⟨j, hj, huse, hoverlap⟩
      exact ⟨t.staging[j], ⟨j.val, hj, t.staging_getElem? j, huse⟩, hoverlap⟩
  rw [WindowRecord.fault_eq_some_iff, hseen]
  refine and_congr_right fun _ => or_congr_right (and_congr_right fun hvalid => and_congr_right fun _ => ?_)
  exact exists_congr fun j => and_congr_right fun hj => and_congr_right fun huse =>
    WindowRecord.overlaps_iff (BitVec.not_lt.1 hvalid) (WindowTable.start_le_last_of_not_fails (hearlier j hj) huse)

theorem WindowTable.fault_none {t : WindowTable} {i : Fin 24} (hearlier : ∀ j < i, ∀ x, ¬ t.Fails j x)
    (h : ∀ x, ¬ t.Fails i x) : t.staging[i].fault (seenBefore t.staging.toList i.val []) = none :=
  Option.eq_none_iff_forall_ne_some.2 fun why hwhy => h why ((t.fault_iff i hearlier why).1 hwhy)

theorem WindowTable.validate_of_fails {t : WindowTable} {i : Fin 24} {why : TableFault} (h : t.Fails i why)
    (hfirst : ∀ j < i, ∀ x, ¬ t.Fails j x) : t.validate = some (i.val, why) := by
  unfold WindowTable.validate
  rw [validateFrom_of_first_fault _ i.val 0 [] (t.staging_getElem? i) ((t.fault_iff i hfirst why).2 h) fun m hm x hx => ?_,
    Nat.zero_add]
  obtain ⟨j, rfl, rfl⟩ := WindowTable.staging_index hx
  exact WindowTable.fault_none (fun k hk => hfirst k (hk.trans hm)) (hfirst j hm)

theorem WindowTable.validate_of_passes {t : WindowTable} (h : ∀ i x, ¬ t.Fails i x) : t.validate = none := by
  refine validateFrom_of_no_fault _ 0 [] fun m r hr => ?_
  obtain ⟨i, rfl, rfl⟩ := WindowTable.staging_index hr
  exact WindowTable.fault_none (fun j _ => h j) (h i)

/-! ## The swap (R91) -/

theorem insertWindow_perm (r : WindowRecord) : ∀ l, (insertWindow r l).Perm (r :: l)
  | [] => List.Perm.refl _
  | x :: rest => by
    unfold insertWindow
    split
    · exact List.Perm.refl _
    · exact ((insertWindow_perm r rest).cons x).trans (List.Perm.swap r x rest)

theorem foldr_insertWindow_perm : ∀ l : List WindowRecord, (l.foldr insertWindow []).Perm l
  | [] => List.Perm.refl _
  | r :: rest => (insertWindow_perm r _).trans ((foldr_insertWindow_perm rest).cons r)

/-- In a sorted active copy each window starts before the next one (R82, R91). -/
theorem WindowTable.Sorted.starts_ascend {t : WindowTable} (h : t.Sorted) :
    t.active.Pairwise fun a b => a.start < b.start := by
  refine h.1.imp_of_mem fun {a b} ha _ hab => ?_
  exact Nat.lt_of_le_of_lt (BitVec.le_def.1 (h.2 a ha).2) (BitVec.lt_def.1 hab)

theorem TableFault.code_eq (why : TableFault) : why.code = if why = .startAfterEnd then 1 else 2 := by
  cases why <;> rfl

/-- The result word of a failed validation (section 10.2): the index and, above it, the reason. -/
theorem tableFaultWord (i n : Nat) : put 0 i + put 8 n = BitVec.ofNat 64 (i + 256 * n) := by
  simp only [put, ← BitVec.ofNat_add]
  congr 1
  omega

/-- Settles O37, by the engine and the outcome of the validation. -/
theorem commitValidatesSwapsAndDrains : Obligations.CommitValidatesSwapsAndDrains := by
  intro s st q h
  have hexec : exec .commitWindows s = execCommitWindows s := rfl
  rw [execCommitWindows, whileRunning_high h.running, h.admitMgmt] at hexec
  have hengine : (s.take st).engine = s.engine := rfl
  have hwindows : (s.take st).windows = s.windows := rfl
  simp only [hengine, hwindows] at hexec
  refine ⟨fun hbusy => ?_, fun i why hidle hfails hfirst => ?_, fun hidle hpasses => ?_⟩
  · rw [hexec, if_pos (Option.isSome_iff_ne_none.2 hbusy)]
    rfl
  · have hvalidate : s.windows.validate = some (i.val, why) := WindowTable.validate_of_fails hfails hfirst
    simp only [hidle, hvalidate, Option.isSome_none, Bool.false_eq_true, if_false, TableFault.code_eq,
      tableFaultWord] at hexec
    exact hexec
  · have hvalidate : s.windows.validate = none := WindowTable.validate_of_passes hpasses
    simp only [hidle, hvalidate, Option.isSome_none, Bool.false_eq_true, if_false, State.take_begun] at hexec
    exact ⟨s.windows.sorted, hexec, (WindowTable.swapped_sorted hvalidate).1.starts_ascend, foldr_insertWindow_perm _⟩

/-! ## The actions that take the engine (R97, R127, R142) -/

/-- Settles O38, by the engine. -/
theorem bridgeResetAbortsAndTakesTheEngine : Obligations.BridgeResetAbortsAndTakesTheEngine := by
  intro s st q h
  have hexec : exec .bridgeReset s = execBridgeReset s := rfl
  rw [execBridgeReset, whileRunning_high h.running, h.admitMgmt] at hexec
  refine ⟨fun hidle => ?_, fun p hp => ?_⟩
  · have habort : (s.take st).abort = s.take st := by
      have hengine : (s.take st).engine = none := hidle
      simp only [State.abort, hengine]
    rw [hexec, habort]
    rfl
  · have habort : (s.take st).abort = (s.headTaken st).ended p.stream p.tag .resetting [] := by
      have hengine : (s.take st).engine = some p := hp
      simp only [State.abort, hengine]
      rfl
    rw [hexec, habort]
    rfl

theorem State.startLineAction_eq (s : State) (a : Action) (st : Fin 16) (q : QueuedFrame) :
    (s.engine ≠ none → (s.take st).startLineAction a st q = s.answered st q .busy []) ∧
    (s.engine = none → bits q.argument 34 30 ≠ 0 → (s.take st).startLineAction a st q = s.answered st q .invalidValue []) ∧
    (s.engine = none → bits q.argument 34 30 = 0 → (s.take st).startLineAction a st q =
      wrapUp s ((s.begun st q).lineStep
        (Progress.start a st q.tag (BitVec.ofNat 34 (bits q.argument 0 34)) .waitLine))) := by
  have hengine : (s.take st).engine = s.engine := rfl
  unfold State.startLineAction
  rw [hengine, State.take_begun]
  refine ⟨fun hbusy => ?_, fun hidle hlong => ?_, fun hidle hshort => ?_⟩
  · rw [if_pos (Option.isSome_iff_ne_none.2 hbusy)]
    rfl
  · rw [hidle, if_neg (by decide), if_pos hlong]
    rfl
  · rw [hidle, if_neg (by decide), if_neg (not_not_intro hshort)]
    rfl

theorem State.startWalk_eq (s : State) (a : Action) (st : Fin 16) (q : QueuedFrame) :
    (s.engine ≠ none → (s.take st).startWalk a st q = s.answered st q .busy []) ∧
    (s.engine = none → (s.take st).startWalk a st q =
      { s.begun st q with engine := some (Progress.start a st q.tag 0 .firstPass) }) := by
  have hengine : (s.take st).engine = s.engine := rfl
  unfold State.startWalk
  rw [hengine, State.take_begun]
  refine ⟨fun hbusy => ?_, fun hidle => ?_⟩
  · rw [if_pos (Option.isSome_iff_ne_none.2 hbusy)]
    rfl
  · rw [hidle, if_neg (by decide)]
    rfl

/-- The commands of the three line actions and the two store walks. -/
theorem State.Passes.exec_action {s : State} {st : Fin 16} {q : QueuedFrame} {row : HeadRow} {a : Action}
    (h : s.Passes row st q) :
    ((row, a) ∈ [(HeadRow.lineClean, Action.lineClean), (.linePurge, .linePurge), (.lineDrop, .lineDrop)] →
      exec row.command s = .next ((s.take st).startLineAction a st q)) ∧
    ((row, a) ∈ [(HeadRow.storeClean, Action.storeClean), (.storePurge, .storePurge)] →
      exec row.command s = .next ((s.take st).startWalk a st q)) := by
  simp only [List.mem_cons, List.not_mem_nil, Prod.mk.injEq, or_false]
  refine ⟨?_, ?_⟩
  · rintro (⟨rfl, rfl⟩ | ⟨rfl, rfl⟩ | ⟨rfl, rfl⟩)
    · show execLineClean s = _
      rw [execLineClean, whileRunning_high h.running, h.admitMgmt]
    · show execLinePurge s = _
      rw [execLinePurge, whileRunning_high h.running, h.admitMgmt]
    · show execLineDrop s = _
      rw [execLineDrop, whileRunning_high h.running, h.admitMgmt]
  · rintro (⟨rfl, rfl⟩ | ⟨rfl, rfl⟩)
    · show execStoreClean s = _
      rw [execStoreClean, whileRunning_high h.running, h.admitMgmt]
    · show execStorePurge s = _
      rw [execStorePurge, whileRunning_high h.running, h.admitMgmt]

/-- Settles O39: the line actions and the walks each take the engine in one way. -/
theorem actionsTakeTheIdleEngine : Obligations.ActionsTakeTheIdleEngine := by
  rintro ⟨row, a⟩ hra s st q h
  by_cases hline : a = .lineClean ∨ a = .linePurge ∨ a = .lineDrop
  · have hmem : (row, a) ∈ [(HeadRow.lineClean, Action.lineClean), (.linePurge, .linePurge), (.lineDrop, .lineDrop)] := by
      simp only [List.mem_cons, List.not_mem_nil, Prod.mk.injEq, or_false] at hra ⊢
      rcases hra with hrow | hrow | hrow | ⟨_, rfl⟩ | ⟨_, rfl⟩
      · exact Or.inl hrow
      · exact Or.inr (Or.inl hrow)
      · exact Or.inr (Or.inr hrow)
      all_goals simp at hline
    obtain ⟨hbusy, hlong, hstarts⟩ := s.startLineAction_eq a st q
    have hexec := (State.Passes.exec_action h).1 hmem
    dsimp only at hexec ⊢
    rw [hexec]
    exact ⟨fun hb => congrArg _ (hbusy hb), fun hidle _ hl => congrArg _ (hlong hidle hl),
      fun hidle _ hshort => congrArg _ (hstarts hidle hshort), fun _ hwalk => absurd hline hwalk⟩
  · have hmem : (row, a) ∈ [(HeadRow.storeClean, Action.storeClean), (.storePurge, .storePurge)] := by
      simp only [List.mem_cons, List.not_mem_nil, Prod.mk.injEq, or_false] at hra ⊢
      rcases hra with ⟨_, rfl⟩ | ⟨_, rfl⟩ | ⟨_, rfl⟩ | hrow | hrow
      · exact absurd (Or.inl rfl) hline
      · exact absurd (Or.inr (Or.inl rfl)) hline
      · exact absurd (Or.inr (Or.inr rfl)) hline
      · exact Or.inl hrow
      · exact Or.inr hrow
    obtain ⟨hbusy, hstarts⟩ := s.startWalk_eq a st q
    have hexec := (State.Passes.exec_action h).2 hmem
    dsimp only at hexec ⊢
    rw [hexec]
    exact ⟨fun hb => congrArg _ (hbusy hb), fun _ hl => absurd hl hline, fun _ hl => absurd hl hline,
      fun hidle _ => congrArg _ (hstarts hidle)⟩

/-! ## Finished actions (R95, R128, R135, R140, R148) -/

theorem State.finish_eq (s : State) (p : Progress) :
    (s.ulink.egress.length < 64 → s.finish p = { s.ended p.stream p.tag .ok p.resultWords with engine := none }) ∧
    (64 ≤ s.ulink.egress.length → s.finish p = { s with engine := some { p with phase := .finishing } }) :=
  ⟨fun hroom => if_pos (s.room_iff.2 hroom), fun hfull => if_neg fun hroom => Nat.not_lt.2 hfull (s.room_iff.1 hroom)⟩

/-- The result word of a line action, field by field (section 10.2). -/
theorem outcomeWord_fields (outcome : LineOutcome) (found : LineState) :
    let w := put 0 outcome.code + put 4 found.code
    bits w 0 3 = outcome.code ∧ bits w 3 1 = 0 ∧ bits w 4 2 = found.code ∧ bits w 6 58 = 0 := by
  have hfit : FieldsFit 0 64 [⟨0, 3, outcome.code⟩, ⟨4, 2, found.code⟩] := by
    have := outcome.code_lt
    have := found.code_lt
    simp only [FieldsFit]
    omega
  have hword : put 0 outcome.code + put 4 found.code = layout [⟨0, 3, outcome.code⟩, ⟨4, 2, found.code⟩] := by
    simp [layout_cons, layout_nil]
  dsimp only
  rw [hword]
  exact ⟨bits_layout hfit rfl, bits_layout hfit rfl, bits_layout hfit rfl, bits_layout hfit rfl⟩

/-- The result word of a walk: its three counts (section 10.2). -/
theorem countsWord_fields {purged cleaned skipped : Nat} (hpurged : purged ≤ 512) (hcleaned : cleaned ≤ 512)
    (hskipped : skipped ≤ 512) :
    let w := put 0 purged + put 16 cleaned + put 32 skipped
    bits w 0 10 = purged ∧ bits w 10 6 = 0 ∧ bits w 16 10 = cleaned ∧ bits w 26 6 = 0 ∧ bits w 32 10 = skipped ∧
      bits w 42 22 = 0 := by
  have hfit : FieldsFit 0 64 [⟨0, 10, purged⟩, ⟨16, 10, cleaned⟩, ⟨32, 10, skipped⟩] := by
    simp only [FieldsFit]
    omega
  have hword : put 0 purged + put 16 cleaned + put 32 skipped =
      layout [⟨0, 10, purged⟩, ⟨16, 10, cleaned⟩, ⟨32, 10, skipped⟩] := by
    simp [layout_cons, layout_nil, add_assoc]
  dsimp only
  rw [hword]
  exact ⟨bits_layout hfit rfl, bits_layout hfit rfl, bits_layout hfit rfl, bits_layout hfit rfl, bits_layout hfit rfl,
    bits_layout hfit rfl⟩

/-- Settles O44: the words are the action's result words, and a place decides between the completion and FINISHING. -/
theorem finishedActionsReportAndFreeTheEngine : Obligations.FinishedActionsReportAndFreeTheEngine := by
  intro s p hpurged hcleaned hskipped
  obtain ⟨hplaced, hwaits⟩ := s.finish_eq p
  refine ⟨p.resultWords, fun hroom => ⟨hplaced hroom, fun hrun hp hphase => ?_⟩, hwaits, fun ha => ?_, fun ha => ?_,
    fun ha => ?_, by decide⟩
  · show execPlaceActionCompletion s = _
    refine (whileRunning_high hrun).trans (congrArg _ ?_)
    simp only [hp, hphase, s.room_iff.2 hroom, and_self, if_true]
    exact hplaced hroom
  · simp only [Progress.resultWords, ha]
  · refine ⟨_, ?_, outcomeWord_fields p.outcome p.found⟩
    rcases ha with ha | ha | ha <;> simp only [Progress.resultWords, ha]
  · refine ⟨_, ?_, countsWord_fields hpurged hcleaned hskipped⟩
    rcases ha with ha | ha | ha <;> simp only [Progress.resultWords, ha]

end Sys2Proof.Machine
end

section
/-! PROOFS. The work of the maintenance engine (chapter 6): the step of a line action, the visits of a walk, and the phases that
end by themselves. -/

namespace Sys2Proof.Machine

-- Proofs are elaborated one after another: the threads of proofs that wait for each other do not fit the memory of the check.
set_option Elab.async false

open Sys2Proof (Word LineAddr)

/-! ## Closed ways (R129) -/

theorem State.closed_iff (s : State) (w : WayRef) : s.closed w = true ↔ (s.line w).holder ≠ .none ∨
    (s.line w).state ≠ .invalid ∧ ∃ n e, s.entry n = some e ∧ e.line = lineAt (s.line w).tag w.set := by
  unfold State.closed
  rw [Bool.or_eq_true, Bool.and_eq_true, bne_iff_ne, bne_iff_ne, State.entryNaming_isSome]
  rfl

/-- The way that a lookup finds holds a line. -/
theorem State.state_of_lookup {s : State} {l : LineAddr} {w : WayRef} (hw : s.lookup l = some w) :
    (s.line w).state ≠ .invalid := by
  have hholds := (State.holdsTag_of_lookup hw).1
  simp only [LineRecord.holdsTag, Bool.and_eq_true, bne_iff_ne] at hholds
  exact hholds.1

theorem State.closed_iff_of_lookup {s : State} {l : LineAddr} {w : WayRef} (hw : s.lookup l = some w) :
    s.closed w = true ↔ (s.line w).holder ≠ .none ∨ ∃ n e, s.entry n = some e ∧ e.line = l := by
  rw [State.closed_iff, State.lineAt_of_lookup hw]
  exact or_congr_right ⟨And.right, fun h => ⟨State.state_of_lookup hw, h⟩⟩

/-! ## The step of a line action (R129 to R134) -/

/-- What a line action that finds something to do reports (R131 to R133). -/
def Action.doneOutcome (a : Action) : LineOutcome :=
  match a with
  | .lineClean => .cleaned
  | .linePurge => .purged
  | _ => .dropped

/-- A line action needs a slot for a line in this state (R131 to R133). -/
def Action.NeedsSlot (a : Action) (found : LineState) : Prop :=
  if a = .lineClean then found = .modified else found = .owned ∨ found = .modified

/-- The tables of R131 to R133 for a present line. -/
theorem lineTreatment_eq {a : Action} (ha : a = .lineClean ∨ a = .linePurge ∨ a = .lineDrop) {found : LineState}
    (hfound : found ≠ .invalid) :
    (a.NeedsSlot found → lineTreatment a found = .fill a.doneOutcome) ∧
    (¬ a.NeedsSlot found → a = .lineClean → lineTreatment a found = .leave .unchanged) ∧
    (¬ a.NeedsSlot found → a ≠ .lineClean → lineTreatment a found = .empty a.doneOutcome) := by
  rcases ha with rfl | rfl | rfl <;> cases found <;> simp_all [Action.NeedsSlot, lineTreatment, Action.doneOutcome]

theorem State.lineStep_of_closed {s : State} {p : Progress} {w : WayRef} (hw : s.lookup p.line = some w)
    (hclosed : s.closed w = true) :
    s.lineStep p = { s with engine := some { p with phase := .waitLine, position := w, wake := false } } := by
  simp only [State.lineStep, hw, hclosed, if_true]
  rfl

/-- The step of a line action at an open way, by the treatment of the line there. -/
theorem State.lineStep_of_open {s : State} {p : Progress} {w : WayRef} (hw : s.lookup p.line = some w)
    (hopen : s.closed w = false) :
    (∀ o, lineTreatment p.action (s.line w).state = .leave o →
      s.lineStep p = s.finish { p with outcome := o, found := (s.line w).state }) ∧
    (∀ o, lineTreatment p.action (s.line w).state = .empty o →
      s.lineStep p = (s.setLine w { s.line w with state := .invalid, marks := 0 }).finish
        { p with outcome := o, found := (s.line w).state }) ∧
    (∀ o, lineTreatment p.action (s.line w).state = .fill o → s.freeSlot = none →
      s.lineStep p = { s with engine := some { p with phase := .waitSlot, wake := false } }) ∧
    (∀ o k, lineTreatment p.action (s.line w).state = .fill o → s.freeSlot = some k →
      s.lineStep p = (State.fillForLine { s with engine := some { p with
          phase := .waitFree, own := [k], outcome := o, found := (s.line w).state, wake := false } } { p with
          phase := .waitFree, own := [k], outcome := o, found := (s.line w).state, wake := false } k w).queueSlot k) := by
  refine ⟨fun o ht => ?_, fun o ht => ?_, fun o ht hfull => ?_, fun o k ht hfree => ?_⟩
  · simp only [State.lineStep, hw, hopen, Bool.false_eq_true, if_false, ht]
  · simp only [State.lineStep, hw, hopen, Bool.false_eq_true, if_false, ht]
    rfl
  · simp only [State.lineStep, hw, hopen, Bool.false_eq_true, if_false, ht, hfull]
    rfl
  · simp only [State.lineStep, hw, hopen, Bool.false_eq_true, if_false, ht, hfree]
    rfl

theorem State.flushInto_eq (s : State) (k : Fin 4) (w : WayRef) :
    s.flushInto k w = (s.setSlot k (some {
      state := .queued, kind := .flush, line := lineAt (s.line w).tag w.set, mask := (s.line w).marks
      data := (s.line w).data, origin := w, originState := (s.line w).state, attempts := 0, stallReported := false
      })).setLine w { s.line w with state := .owned, marks := 0, holder := .slot k } := by
  unfold State.flushInto EvictionSlot.ofLine
  rfl

theorem State.dropInto_eq (s : State) (k : Fin 4) (w : WayRef) :
    s.dropInto k w = (s.setSlot k (some {
      state := .queued, kind := .release, line := lineAt (s.line w).tag w.set, mask := 0, data := Vector.replicate 8 0
      origin := w, originState := (s.line w).state, attempts := 0, stallReported := false
      })).setLine w { s.line w with state := .invalid, marks := 0 } := by
  unfold State.dropInto EvictionSlot.ofLine
  rfl

/-- What each line action fills its slot with (R131 to R133). -/
theorem State.fillForLine_eq (s : State) (p : Progress) (k : Fin 4) (w : WayRef) :
    (p.action = .lineClean → s.fillForLine p k w = s.flushInto k w) ∧
    (p.action = .linePurge → s.fillForLine p k w = s.evictInto k w) ∧
    (p.action = .lineDrop → s.fillForLine p k w = if (s.line w).state = .modified then
      (s.dropInto k w).log (accessFault .dataDiscarded p.stream p.tag p.line) else s.dropInto k w) := by
  refine ⟨fun ha => ?_, fun ha => ?_, fun ha => ?_⟩ <;> simp only [State.fillForLine, ha]

/-- Settles O40, by what the lookup finds and the tables of the three line actions. -/
theorem lineActionTreatsWhatItFinds : Obligations.LineActionTreatsWhatItFinds := by
  intro s p ha
  refine ⟨fun hrun hp => ?_, fun habsent => ?_, fun w hw => ?_⟩
  · show execLineActionStep s = _
    refine (whileRunning_high hrun).trans (congrArg _ ?_)
    simp only [hp]
  · simp only [State.lineStep, habsent]
  · obtain ⟨hfill, hleave, hempty⟩ := lineTreatment_eq ha (State.state_of_lookup hw)
    have hclosed := State.closed_iff_of_lookup hw
    refine ⟨fun hc => State.lineStep_of_closed hw (hclosed.2 hc), fun hopen hneeds => ?_, fun hopen hneeds hfull => ?_,
      fun k hopen hneeds hfree => ?_⟩
    all_goals obtain ⟨hleft, hemptied, hwaits, hfilled⟩ := State.lineStep_of_open hw (Bool.eq_false_iff.2 fun hc => hopen (hclosed.1 hc))
    · by_cases hclean : p.action = .lineClean
      · rw [if_pos hclean]
        exact hleft _ (hleave hneeds hclean)
      · rw [if_neg hclean]
        exact hemptied _ (hempty hneeds hclean)
    · exact hwaits _ (hfill hneeds) hfull
    · rw [hfilled _ k (hfill hneeds) hfree]
      refine congrArg (State.queueSlot · k) ?_
      set b : State := { s with engine := some { p with
        phase := .waitFree, own := [k], outcome := p.action.doneOutcome, found := (s.line w).state, wake := false } } with hb
      have hline : b.line w = s.line w := rfl
      have hcarried : lineAt (b.line w).tag w.set = p.line := State.lineAt_of_lookup hw
      obtain ⟨hclean, hpurge, hdrop⟩ := b.fillForLine_eq { p with
        phase := .waitFree, own := [k], outcome := p.action.doneOutcome, found := (s.line w).state, wake := false } k w
      rcases ha with ha | ha | ha
      · rw [hclean ha, State.flushInto_eq, hcarried, hline]
        simp only [hb, ha, reduceCtorEq, if_true, if_false, false_and]
        rfl
      · rw [hpurge ha, State.evictInto_eq, hcarried, hline]
        by_cases hmodified : (s.line w).state = .modified
        · simp only [hb, ha, hmodified, reduceCtorEq, if_true, if_false, false_and, and_self]
          rfl
        · simp only [hb, ha, hmodified, reduceCtorEq, if_true, if_false, and_false]
          rfl
      · rw [hdrop ha, State.dropInto_eq, hcarried, hline]
        by_cases hmodified : (s.line w).state = .modified
        · simp only [hb, ha, hmodified, reduceCtorEq, if_true, if_false, false_and, and_self]
          rfl
        · simp only [hb, ha, hmodified, reduceCtorEq, if_true, if_false, and_false]
          rfl

/-! ## The visits of a walk (R129, R136, R139, R145) -/

/-- Where the walk stands after a way (R136). -/
theorem nextWay_eq (w : WayRef) :
    (w.way ≠ 3 → nextWay w = some ⟨w.set, w.way + 1⟩) ∧
    (w.way = 3 → w.set ≠ 127 → nextWay w = some ⟨w.set + 1, 0⟩) ∧
    (w = ⟨127, 3⟩ → nextWay w = none) := by
  unfold nextWay
  refine ⟨fun hway => if_pos hway, fun hway hset => ?_, fun hlast => ?_⟩
  · rw [if_neg (not_not_intro hway), if_pos hset]
  · rw [hlast]
    rfl

theorem Progress.moveOn_of_some {p : Progress} {w : WayRef} (h : nextWay p.position = some w) :
    p.moveOn = { p with position := w, walkWait := .none, wake := false } := by
  simp only [Progress.moveOn, h]

theorem Progress.moveOn_of_none {p : Progress} (h : nextWay p.position = none) :
    (p.passedOver = [] → p.moveOn = p.endRevisit) ∧
    (p.passedOver ≠ [] → p.moveOn = { p with
      phase := if p.action = .bridgeReset then .purgeRevisit else .revisit, walkWait := .none, wake := false }) := by
  simp only [Progress.moveOn, h]
  exact ⟨fun hnone => if_pos hnone, fun hsome => if_neg hsome⟩

theorem Progress.dropHead_of_one {p : Progress} {w : WayRef} (h : p.passedOver = [w]) :
    p.dropHead = Progress.endRevisit { p with passedOver := [] } := by
  simp only [Progress.dropHead, h, List.tail_cons, if_true]

theorem Progress.dropHead_of_more {p : Progress} {w x : WayRef} {rest : List WayRef} (h : p.passedOver = w :: x :: rest) :
    p.dropHead = { p with passedOver := x :: rest, walkWait := .none, wake := false } := by
  simp only [Progress.dropHead, h, List.tail_cons, reduceCtorEq, if_false]

theorem Progress.visitDue_of {p : Progress} (h : p.walkWait = .none ∨ p.wake = true) : p.visitDue = true := by
  rcases h with h | h <;> simp [Progress.visitDue, h]

/-- Settles O41, by the two visiting commands and the two ways the record moves on. -/
theorem walksVisitInOrderAndRevisitOnce : Obligations.WalksVisitInOrderAndRevisitOnce := by
  refine ⟨fun s p hrun hp hdue => ⟨fun hphase => ?_, fun w rest hphase hlist => ?_⟩, State.closed_iff, fun p => ?_⟩
  · show execWalkVisit s = _
    refine (whileRunning_high hrun).trans (congrArg _ ?_)
    simp only [hp, hphase, Progress.visitDue_of hdue, and_self, if_true]
    rfl
  · show execWalkRevisit s = _
    refine (whileRunning_high hrun).trans (congrArg _ ?_)
    simp only [hp, hphase, Progress.visitDue_of hdue, and_self, if_true, State.revisit, hlist]
    cases hclosed : s.closed w
    · simp only [Bool.false_eq_true, if_false, if_true]
    · simp only [if_true, reduceCtorEq, if_false]
      rfl
  · obtain ⟨hnext, hset, hlast⟩ := nextWay_eq p.position
    exact ⟨fun hway => Progress.moveOn_of_some (hnext hway), fun hway h => Progress.moveOn_of_some (hset hway h),
      fun h => (Progress.moveOn_of_none (hlast h)).1, fun h => (Progress.moveOn_of_none (hlast h)).2,
      fun w => Progress.dropHead_of_one, fun w x rest => Progress.dropHead_of_more⟩

/-! ## A walk at an open way (R93, R137, R138) -/

/-- The walk purges a line of a granule with window `win` (R93, R137). -/
def Action.Purges (a : Action) (win : Option WindowRecord) : Prop :=
  a = .storePurge ∨ a = .bridgeReset ∨ a = .commit ∧ ∀ x, win = some x → x.kind = .deny ∨ x.ceiling = .bypass

/-- The walk cleans a line in state `found` of a granule with window `win` (R93, R137). -/
def Action.Cleans (a : Action) (win : Option WindowRecord) (found : LineState) : Prop :=
  found = .modified ∧ (a = .storeClean ∨ a = .commit ∧ ∃ x, win = some x ∧ x.kind = .far ∧ x.ceiling = .writeThrough)

/-- The sweep's decision is the table of R93. -/
theorem sweepTreatment_iff (win : Option WindowRecord) (found : LineState) :
    (sweepTreatment win found = .purge ↔ ∀ x, win = some x → x.kind = .deny ∨ x.ceiling = .bypass) ∧
    (sweepTreatment win found = .clean ↔
      found = .modified ∧ ∃ x, win = some x ∧ x.kind = .far ∧ x.ceiling = .writeThrough) := by
  cases win with
  | none => simp [sweepTreatment]
  | some r =>
    cases hkind : r.kind
    · cases hceiling : r.ceiling <;> cases found <;> simp [sweepTreatment, hkind, hceiling]
    · simp [sweepTreatment, hkind]

/-- A walk's decision for an open way, action by action (R137). -/
theorem State.treatment_iff (s : State) {a : Action} (w : WayRef)
    (ha : a = .storeClean ∨ a = .storePurge ∨ a = .commit ∨ a = .bridgeReset) :
    (s.treatment a w = .purge ↔ a.Purges (s.windows.covering (granuleOfLine (s.lineOfWay w)))) ∧
    (s.treatment a w = .clean ↔
      a.Cleans (s.windows.covering (granuleOfLine (s.lineOfWay w))) (s.line w).state) := by
  rcases ha with rfl | rfl | rfl | rfl
  · by_cases hmodified : (s.line w).state = .modified <;>
      simp [State.treatment, Action.Purges, Action.Cleans, hmodified]
  · simp [State.treatment, Action.Purges, Action.Cleans]
  · simp only [State.treatment, Action.Purges, Action.Cleans, reduceCtorEq, false_or, true_and]
    exact sweepTreatment_iff _ _
  · simp [State.treatment, Action.Purges, Action.Cleans]

/-- The ends of a visit to an open way, by the line there and the walk's decision. -/
theorem State.visitOpen_eq (s : State) (p : Progress) (w : WayRef) (next : Progress → Progress) :
    let r := s.line w
    let waiting : State := { s with engine := some { p with position := w, walkWait := .slot, wake := false } }
    (r.state = .invalid ∨ s.treatment p.action w = .keep → s.visitOpen p w next = { s with engine := some (next p) }) ∧
    (r.state = .modified → s.treatment p.action w = .clean → s.freeSlot = none → s.visitOpen p w next = waiting) ∧
    (∀ k, r.state = .modified → s.treatment p.action w = .clean → s.freeSlot = some k → s.visitOpen p w next =
      (State.flushInto { s with engine := some (next { p with own := p.own.insert k, cleaned := p.cleaned + 1 }) } k
        w).queueSlot k) ∧
    (r.state = .shared → s.treatment p.action w = .purge → s.visitOpen p w next =
      State.setLine { s with engine := some (next p.countPurge) } w { r with state := .invalid, marks := 0 }) ∧
    (r.state = .owned ∨ r.state = .modified → s.treatment p.action w = .purge → s.freeSlot = none →
      s.visitOpen p w next = waiting) ∧
    (∀ k, r.state = .owned ∨ r.state = .modified → s.treatment p.action w = .purge → s.freeSlot = some k →
      s.visitOpen p w next =
        (State.evictInto { s with engine := some (next { p.countPurge with own := p.own.insert k }) } k w).queueSlot k) := by
  refine ⟨?_, fun hstate ht hfull => ?_, fun k hstate ht hfree => ?_, fun hstate ht => ?_, fun hstate ht hfull => ?_,
    fun k hstate ht hfree => ?_⟩
  · rintro (hstate | ht)
    · simp only [State.visitOpen, hstate, if_true]
      rfl
    · by_cases hstate : (s.line w).state = .invalid
      · simp only [State.visitOpen, hstate, if_true]
        rfl
      · simp only [State.visitOpen, hstate, if_false, ht]
        rfl
  · simp only [State.visitOpen, hstate, reduceCtorEq, if_false, ht, hfull]
    rfl
  · simp only [State.visitOpen, hstate, reduceCtorEq, if_false, ht, hfree]
    rfl
  · simp only [State.visitOpen, hstate, reduceCtorEq, if_false, ht, if_true]
    rfl
  · rcases hstate with hstate | hstate <;> simp only [State.visitOpen, hstate, reduceCtorEq, if_false, ht, hfull] <;> rfl
  · rcases hstate with hstate | hstate <;> simp only [State.visitOpen, hstate, reduceCtorEq, if_false, ht, hfree] <;> rfl

/-- Settles O42, by the walk's decision and the line it finds. -/
theorem walkTreatsAnOpenWay : Obligations.WalkTreatsAnOpenWay := by
  intro s p w next ha
  obtain ⟨hpurges, hcleans⟩ := s.treatment_iff w ha
  obtain ⟨hkeep, hcleanWaits, hclean, hshared, hpurgeWaits, hpurge⟩ := s.visitOpen_eq p w next
  have hkept (hp : ¬ p.action.Purges (s.windows.covering (granuleOfLine (s.lineOfWay w))))
      (hc : ¬ p.action.Cleans (s.windows.covering (granuleOfLine (s.lineOfWay w))) (s.line w).state) :
      s.treatment p.action w = .keep := by
    cases ht : s.treatment p.action w
    · rfl
    · exact absurd (hcleans.1 ht) hc
    · exact absurd (hpurges.1 ht) hp
  refine ⟨fun h => hkeep (h.imp_right fun hneither => hkept hneither.1 hneither.2),
    fun hstate h => hshared hstate (hpurges.2 h), ?_, fun k hfree => ⟨fun h => ?_, fun hstate h => ?_⟩⟩
  · rintro (h | ⟨hstate, h⟩) hfull
    · exact hcleanWaits h.1 (hcleans.2 h) hfull
    · exact hpurgeWaits hstate (hpurges.2 h) hfull
  · rw [hclean k h.1 (hcleans.2 h) hfree, State.flushInto_eq]
    rfl
  · rw [hpurge k hstate (hpurges.2 h) hfree, State.evictInto_eq]
    refine congrArg (State.queueSlot · k) ?_
    have hline : State.line { s with engine := some (next { p.countPurge with own := p.own.insert k }) } w = s.line w := rfl
    have hcounted : { p.countPurge with own := p.own.insert k } =
        { (if p.action = .bridgeReset then p else { p with purged := p.purged + 1 }) with own := p.own.insert k } := rfl
    rw [hline, hcounted]
    by_cases hmodified : (s.line w).state = .modified
    · simp only [hmodified, reduceCtorEq, if_true, if_false]
    · simp only [hmodified, if_true, if_false]

/-! ## Phases that end by themselves (R92, R128, R135, R143 to R147) -/

theorem State.noEntry_iff (s : State) : s.noEntry = true ↔ ∀ n, s.entry n = none := by
  simp [State.noEntry]

theorem State.noOldEntry_iff (s : State) :
    s.noOldEntry = true ↔ ∀ n e, s.entry n = some e → e.epoch = s.windows.epoch := by
  unfold State.noOldEntry
  rw [List.all_eq_true]
  refine ⟨fun h n e he => ?_, fun h n _ => ?_⟩
  · have hn := h n (List.mem_finRange n)
    rw [he] at hn
    exact eq_of_beq hn
  · cases he : s.entry n with
    | none => rfl
    | some e => exact beq_iff_eq.2 (h n e he)

theorem State.slotsFree_iff (s : State) : s.slotsFree = true ↔ ∀ k, s.slot k = none := by
  simp [State.slotsFree]

theorem State.intakeEmpty_iff (s : State) : s.intakeEmpty = true ↔ ∀ st, (s.stream st).queue = [] := by
  simp [State.intakeEmpty]

theorem State.noteOpening_of_some {s : State} {p : Progress} (hp : s.engine = some p) : s.noteOpening =
    if (p.phase = .waitLine ∨ p.walkWait = .opening) ∧ s.closed p.position = false then
      { s with engine := some { p with wake := true } } else s := by
  simp only [State.noteOpening, hp]
  rfl

/-- What each phase that ends by itself becomes. -/
theorem State.advance_of_some {s : State} {p : Progress} (hp : s.engine = some p) :
    (p.phase = .waitFree → s.advance = if p.own = [] then s.finish p else s) ∧
    (p.phase = .refusing → s.advance = if s.intakeEmpty = true then
      if s.noEntry = true then { s with engine := some p.startPurge } else { s with engine := some { p with phase := .drain } }
      else s) ∧
    (p.phase = .drain → p.action = .bridgeReset →
      s.advance = if s.noEntry = true then { s with engine := some p.startPurge } else s) ∧
    (p.phase = .drain → p.action ≠ .bridgeReset →
      s.advance = if s.noOldEntry = true then { s with engine := some { p with phase := .firstPass } } else s) ∧
    (p.phase = .settle → s.advance = if s.slotsFree = true then (s.clear p).finish p else s) ∧
    (p.phase ∉ [EnginePhase.waitFree, .refusing, .drain, .settle] → s.advance = s) := by
  refine ⟨fun hphase => ?_, fun hphase => ?_, fun hphase ha => ?_, fun hphase ha => ?_, fun hphase => ?_, fun hphase => ?_⟩
  · simp only [State.advance, hp, hphase]
  · simp only [State.advance, hp, hphase]
    rfl
  · simp only [State.advance, hp, hphase, ha]
    rfl
  · cases hact : p.action
    case bridgeReset => exact absurd hact ha
    all_goals
      simp only [State.advance, hp, hphase, hact]
      rfl
  · simp only [State.advance, hp, hphase]
  · cases hx : p.phase <;> simp_all [State.advance]

/-- CLEAR gives a stream its power-on record but for what R125 keeps. -/
theorem State.clear_eq (s : State) (p : Progress) : s.clear p = { s with
    store := State.reset.store, windows := State.reset.windows, lineStoreOn := true, arbiter := 0
    streams := Vector.ofFn fun st => { State.reset.stream st with
      outstanding := if st = p.stream then [p.tag] else [], queue := (s.stream st).queue }
    ulink := { s.ulink with badFrames := 0 }
    dlink := { s.dlink with
      timeout := 16, retryLimit := 2, tags := State.reset.dlink.tags, badFrames := 0, staleReplies := 0
      unknownTags := 0, timeouts := 0 }
    faults := State.reset.faults, notices := State.reset.notices } := by
  simp only [State.reset_stream]
  rfl

/-- Settles O43, phase by phase. -/
theorem enginePhasesEndThemselves : Obligations.EnginePhasesEndThemselves := by
  intro s
  refine ⟨fun _ => rfl, fun hidle => ?_, fun p hp => ?_⟩
  · simp only [State.noteOpening, State.advance, hidle, and_self]
  obtain ⟨hwaitFree, hrefusing, hresetDrain, hdrain, hsettle, hother⟩ := State.advance_of_some hp
  refine ⟨State.noteOpening_of_some hp, hwaitFree, fun hphase hqueued => ?_, fun hphase hempty => ?_,
    fun hphase ha => ?_, fun hphase ha => ?_, fun hphase hfree => ?_, fun hphase ⟨k, hk⟩ => ?_, hother⟩
  · obtain ⟨st, hst⟩ := hqueued
    rw [hrefusing hphase, if_neg fun h => hst (s.intakeEmpty_iff.1 h st)]
  · rw [hrefusing hphase, if_pos (s.intakeEmpty_iff.2 hempty)]
    exact ⟨fun hidle => if_pos (s.noEntry_iff.2 hidle), fun hbusy => if_neg fun h => hbusy (s.noEntry_iff.1 h)⟩
  · rw [hresetDrain hphase ha]
    exact ⟨fun hidle => if_pos (s.noEntry_iff.2 hidle), fun hbusy => if_neg fun h => hbusy (s.noEntry_iff.1 h)⟩
  · rw [hdrain hphase ha]
    exact ⟨fun hnew => if_pos (s.noOldEntry_iff.2 hnew),
      fun ⟨n, e, he, hold⟩ => if_neg fun h => hold (s.noOldEntry_iff.1 h n e he)⟩
  · rw [hsettle hphase, if_pos (s.slotsFree_iff.2 hfree), State.clear_eq]
  · rw [hsettle hphase, if_neg fun h => hk (s.slotsFree_iff.1 h k)]

end Sys2Proof.Machine
end

section
/-! PROOFS. Service and replies (chapters 2, 3 and 7): one service of a parked request, and what a reply of the home does to the
entry or slot whose attempt it answers. -/

namespace Sys2Proof.Machine

-- Proofs are elaborated one after another: the threads of proofs that wait for each other do not fit the memory of the check.
set_option Elab.async false

open Sys2Proof (Word LineAddr LineData Arrival Frame)

/-! ## Service (R62 to R64) -/

/-- The way that entry `n` names stops being held by it. -/
def State.unheld (s : State) (n : Fin 12) (way : Option WayRef) : State :=
  match way with
  | some w => s.releaseWay (.entry n) w
  | none => s

theorem State.unheld_streams (s : State) (n : Fin 12) (way : Option WayRef) : (s.unheld n way).streams = s.streams := by
  unfold State.unheld State.releaseWay
  split
  · split <;> rfl
  · rfl

theorem State.freeEntryAt_eq {s : State} {n : Fin 12} {e : TrackerEntry} (he : s.entry n = some e) :
    s.freeEntryAt n = { (s.unheld n e.way).setEntry n none with streams := s.streams.map StreamRecord.lift } := by
  unfold State.freeEntryAt
  rw [he]
  show { (s.unheld n e.way).setEntry n none with streams := (s.unheld n e.way).streams.map StreamRecord.lift } = _
  rw [State.unheld_streams]

/-- A request leaves the list: the entry keeps the rest, or frees with its last (R52, R64, R108). -/
theorem State.serveWith_eq {s : State} {n : Fin 12} {e : TrackerEntry} (he : s.entry n = some e) (r : Request)
    (rest : List Request) (x : Status) (words : List Word) :
    let b : State := { s.ended r.stream r.tag x words with
      streams := (s.ended r.stream r.tag x words).streams.map (StreamRecord.liftFull e.line) }
    s.serveWith n e r rest x words =
      if rest = [] then { (b.unheld n e.way).setEntry n none with streams := b.streams.map StreamRecord.lift }
      else b.setEntry n (some { e with parked := rest, answer := .none }) := by
  intro b
  cases rest with
  | nil =>
    rw [if_pos (show ([] : List Request) = [] from rfl)]
    exact State.freeEntryAt_eq (s := b) he
  | cons r' rest => rfl

/-- What the service of a request without a failure mark does, by the reply that answered it (R62). -/
theorem State.serveFront_eq (s : State) (n : Fin 12) (e : TrackerEntry) (r : Request) (rest : List Request) :
    (∀ m, r.failure = some m → s.serveFront n e r rest = s.serveWith n e r rest m.status []) ∧
    (∀ ws, r.failure = none → e.answer = .wordData ws → s.serveFront n e r rest = s.serveWith n e r rest .ok ws) ∧
    (r.failure = none → e.answer = .done → s.serveFront n e r rest = s.serveWith n e r rest .ok []) ∧
    (r.failure = none → e.answer = .none → s.work r = none →
      s.serveFront n e r rest = (s.hit r).serveWith n e r rest .ok (s.hitWords r)) ∧
    (∀ k, r.failure = none → e.answer = .none → s.work r = some k → s.serveFront n e r rest = s.turnEntry n k r) := by
  refine ⟨fun m hm => ?_, fun ws hm ha => ?_, fun hm ha => ?_, fun hm ha hw => ?_, fun k hm ha hw => ?_⟩
  · simp only [State.serveFront, hm]
  · simp only [State.serveFront, hm, ha]
  · simp only [State.serveFront, hm, ha]
  · simp only [State.serveFront, hm, ha, hw]
  · simp only [State.serveFront, hm, ha, hw]

/-- An entry that turns keeps its way for a fetch or an UPGRADE and gives its hold up for a direct kind (R7, R63). -/
theorem State.turnWay_eq (s : State) (n : Fin 12) (e : TrackerEntry) {k : EntryKind} :
    (k = .fetchS ∨ k = .fetchO ∨ k = .upgrade → s.turnWay n e k = (s, e.way)) ∧
    (k = .directRead ∨ k = .directWrite ∨ k = .purgeDirect → s.turnWay n e k = (s.unheld n e.way, none)) := by
  constructor
  · rintro (rfl | rfl | rfl) <;> simp only [State.turnWay]
  · rintro (rfl | rfl | rfl) <;> cases hway : e.way <;> simp only [State.turnWay, State.unheld, hway]

theorem State.turnEntry_eq {s b : State} {n : Fin 12} {e : TrackerEntry} {k : EntryKind} {way : Option WayRef} {r : Request}
    (he : s.entry n = some e) (hway : (s.storeThrough k r).turnWay n e k = (b, way)) :
    s.turnEntry n k r = (b.setEntry n (some { e with
      kind := k, phase := .waiting .lineInSlot, way := way, attempts := 0, converted := false
      storedShared := s.storesThrough k r, answer := .none, wake := false })).step1 n := by
  simp only [State.turnEntry, he, hway]

/-- Settles O45, by the failure mark, the reply, and the work that a replay names. -/
theorem parkedRequestsAreServed : Obligations.ParkedRequestsAreServed := by
  intro s n e r rest hrun hroom he hphase hparked served answer
  have hexec : exec (.serveParkedRequest n) s = .next (wrapUp s (s.serveFront n e r rest)) := by
    show execServeParkedRequest n s = _
    refine (whileRunning_high hrun).trans (congrArg _ ?_)
    simp only [he, hphase, hparked, s.room_iff.2 hroom, if_true]
  have hserved {b : State} (hb : b.entry n = some e) (x : Status) (words : List Word) :
      b.serveWith n e r rest x words = served b x words := State.serveWith_eq hb r rest x words
  obtain ⟨hmark, hdata, hdone, hhit, hturn⟩ := s.serveFront_eq n e r rest
  refine ⟨fun hm => ?_, fun hm => ?_, fun ws hm ha => ?_, fun hm ha => ?_, fun w hm ha hwork hw => ?_,
    fun k hm ha hwork => ⟨fun hk => ?_, fun hk => ?_, fun w hk hw => ?_⟩⟩
  · rw [hmark _ hm, hserved he] at hexec
    exact hexec
  · rw [hmark _ hm, hserved he] at hexec
    exact hexec
  · rw [hdata ws hm ha, hserved he] at hexec
    exact hexec
  · rw [hdone hm ha, hserved he] at hexec
    exact hexec
  · rw [hhit hm ha hwork] at hexec
    cases hwrite : r.isWrite
    · have hstate : s.hit r = s := by simp [State.hit, hw, hwrite]
      have hwords : s.hitWords r = readWords (s.line w).data r.addr r.size := by simp [State.hitWords, hw, hwrite]
      rw [hstate, hwords, hserved he] at hexec
      exact hexec
    · have hstate : s.hit r = s.setLine w ((s.line w).writeHit r) := by simp [State.hit, hw, hwrite]
      have hwords : s.hitWords r = [] := by simp [State.hitWords, hw, hwrite]
      have hentry : (s.setLine w ((s.line w).writeHit r)).entry n = some e := he
      rw [hstate, hwords, hserved hentry] at hexec
      exact hexec
  · obtain ⟨hstate, hstored⟩ := State.storeThrough_nothing (s := s) (r := r) (k := k)
      (Or.inl (by rcases hk with rfl | rfl | rfl <;> decide))
    have hway : (s.storeThrough k r).turnWay n e k = (s, e.way) := by rw [hstate, (s.turnWay_eq n e).1 hk]
    rw [hturn k hm ha hwork, State.turnEntry_eq he hway, hstored] at hexec
    exact hexec
  · obtain ⟨hstate, hstored⟩ := State.storeThrough_nothing (s := s) (r := r) (k := k)
      (by rcases hk with rfl | rfl | ⟨rfl, habsent⟩; exacts [Or.inl (by decide), Or.inl (by decide), Or.inr habsent])
    have hway : (s.storeThrough k r).turnWay n e k = (s.unheld n e.way, none) := by
      rw [hstate, (s.turnWay_eq n e).2 (by rcases hk with rfl | rfl | ⟨rfl, _⟩ <;> decide)]
    rw [hturn k hm ha hwork, State.turnEntry_eq he hway, hstored] at hexec
    exact hexec
  · subst hk
    obtain ⟨hstate, hstored⟩ := State.storeThrough_stores hw
    have hway : (s.storeThrough .directWrite r).turnWay n e .directWrite = ((s.setLine w { s.line w with
        data := storeBytes (s.line w).data r.addr r.size r.data }).unheld n e.way, none) := by
      rw [hstate, (State.turnWay_eq _ n e).2 (Or.inr (Or.inl rfl))]
    rw [hturn _ hm ha hwork, State.turnEntry_eq he hway, hstored] at hexec
    exact hexec

end Sys2Proof.Machine
end

section
/-! PROOFS. Replies of the home (chapters 2, 3 and 7): how a reply is sorted by its tag, which replies fit an attempt, and what
fitting, failing and unexpected replies do. -/

namespace Sys2Proof.Machine

-- Proofs are elaborated one after another: the threads of proofs that wait for each other do not fit the memory of the check.
set_option Elab.async false

open Sys2Proof (Word LineAddr LineData Arrival Frame)

/-! ## Reception of a reply (R153, R156) -/

/-- What the owner of a tag does with a reply packet. -/
def HomePacket.act (p : HomePacket) (t : Fin 32) : Owner → State → State :=
  match p with
  | .refused _ => State.actFailed
  | .error _ reason => State.actError t reason
  | p => State.actReply t p

/-- The fault entry of a reply for a FREE tag (R156). -/
def HomePacket.unknownFault (p : HomePacket) (t : Fin 32) : FaultEntry := unknownTagFault t p.line? p.reason?

/-- Every reply row takes its packet and sorts it by its tag. -/
theorem State.Receives.exec_reply {s : State} {a : Arrival} {p : HomePacket} {rest : List Frame} {t : Fin 32}
    (h : s.Receives a p rest) (ht : p.tag? = some t) :
    exec (p.command a) s = .next ((s.packetTaken a rest).sortReply t (p.unknownFault t) (p.act t)) := by
  cases p <;> cases ht
  case dataS =>
    show execDataS a s = _
    exact (whileRunning_high h.running).trans (congrArg _ (h.takePacket _))
  case dataO =>
    show execDataO a s = _
    exact (whileRunning_high h.running).trans (congrArg _ (h.takePacket _))
  case grant =>
    show execGrant a s = _
    exact (whileRunning_high h.running).trans (congrArg _ (h.takePacket _))
  case done =>
    show execDone a s = _
    exact (whileRunning_high h.running).trans (congrArg _ (h.takePacket _))
  case wordData =>
    show execWordData a s = _
    exact (whileRunning_high h.running).trans (congrArg _ (h.takePacket _))
  case refused =>
    show execRefused a s = _
    exact (whileRunning_high h.running).trans (congrArg _ (h.takePacket _))
  case error =>
    show execError a s = _
    exact (whileRunning_high h.running).trans (congrArg _ (h.takePacket _))

theorem State.packetTaken_linkUp (s : State) (a : Arrival) (rest : List Frame) :
    (s.packetTaken a rest).linkUp = s.linkUp := by
  unfold State.linkUp
  exact congrArg (· == LinkState.up) (s.dlink.receive_state a)

theorem State.packetTaken_tag (s : State) (a : Arrival) (rest : List Frame) (t : Fin 32) :
    (s.packetTaken a rest).tag t = s.tag t := congrArg (·[t]) (s.dlink.receive_tags a)

/-- A reply is sorted by the link state and the state of its tag (R153, R156). -/
theorem State.sortReply_eq (s : State) (t : Fin 32) (unknown : FaultEntry) (act : Owner → State → State) :
    (s.linkUp = false → s.sortReply t unknown act = s.countStale) ∧
    (∀ w, s.linkUp = true → s.tag t = .retired w → s.sortReply t unknown act = s.countStale) ∧
    (s.linkUp = true → s.tag t = .free → s.sortReply t unknown act = announce s (s.countUnknown unknown)) ∧
    (∀ o timer, s.linkUp = true → s.tag t = .inUse o timer →
      s.sortReply t unknown act = wrapUp s (act o (s.setTag t .free))) := by
  refine ⟨fun hup => ?_, fun w hup htag => ?_, fun hup htag => ?_, fun o timer hup htag => ?_⟩
  · simp only [State.sortReply, hup, Bool.false_eq_true, if_false]
  · simp only [State.sortReply, hup, if_true, htag]
  · simp only [State.sortReply, hup, if_true, htag]
  · simp only [State.sortReply, hup, if_true, htag]

/-- A reply whose tag is IN-USE frees the tag and reaches its owner (R156). -/
theorem State.Replies.exec_owner {s : State} {a : Arrival} {p : HomePacket} {rest : List Frame} {t : Fin 32} {o : Owner}
    (h : s.Replies a p rest t o) :
    exec (p.command a) s = .next (wrapUp s (p.act t o (s.replyTaken a rest t))) := by
  obtain ⟨timer, htimer⟩ := h.inUse
  rw [h.toReceives.exec_reply h.tagged]
  exact congrArg _ ((State.sortReply_eq _ _ _ _).2.2.2 o timer
    ((s.packetTaken_linkUp a rest).trans (s.linkUp_iff.2 h.up)) ((s.packetTaken_tag a rest t).trans htimer))

/-! ## Replies nobody waits for (R152, R153, R156, R158, R161) -/

theorem State.packetTaken_state (s : State) (a : Arrival) (rest : List Frame) :
    (s.packetTaken a rest).dlink.state = s.dlink.state := s.dlink.receive_state a

/-- A HELLO-ACK that comes outside TRAINING is discarded (R152). -/
theorem State.takeHelloAck_of_notTraining {s : State} (h : s.dlink.state ≠ .training) (size : BitVec 8)
    (identity : BitVec 16) : s.takeHelloAck size identity = s := by
  unfold State.takeHelloAck
  split
  case h_1 htraining => exact absurd htraining h
  case h_2 => rfl

/-- The two rows that ask for a line back take their packet and hand it to the handler (R37). -/
theorem State.Receives.exec_takeRecall {s : State} {a : Arrival} {p : HomePacket} {rest : List Frame} {homeTag : BitVec 8}
    {l : LineAddr} {drop : Bool} (h : s.Receives a p rest)
    (hp : p = if drop then .recallDrop homeTag l else .recallShare homeTag l) :
    exec (p.command a) s = .next ((s.packetTaken a rest).takeRecall homeTag l drop) := by
  subst hp
  cases drop
  · show execRecallShare a s = _
    exact (whileRunning_high h.running).trans (congrArg _ (h.takePacket _))
  · show execRecallDrop a s = _
    exact (whileRunning_high h.running).trans (congrArg _ (h.takePacket _))

theorem State.takeRecall_of_notUp {s : State} (h : s.linkUp = false) (homeTag : BitVec 8) (l : LineAddr) (drop : Bool) :
    s.takeRecall homeTag l drop = s := by
  simp only [State.takeRecall, h, Bool.false_eq_true, if_false]

/-- Settles O53, by the link state and the tag state. -/
theorem staleAndUnknownReplies : Obligations.StaleAndUnknownReplies := by
  refine ⟨fun s a p rest h => ?_, fun s t hrun => ⟨fun w htag => ?_, fun htag => ?_⟩⟩
  · have hdown (hstate : s.dlink.state ≠ .up) : (s.packetTaken a rest).linkUp = false := by
      rw [State.packetTaken_linkUp, ← Bool.not_eq_true, s.linkUp_iff]
      exact hstate
    have hup (hstate : s.dlink.state = .up) : (s.packetTaken a rest).linkUp = true :=
      (s.packetTaken_linkUp a rest).trans (s.linkUp_iff.2 hstate)
    have htaken (t : Fin 32) := s.packetTaken_tag a rest t
    refine ⟨fun t ht hstate => ?_, fun t w ht hstate htag => ?_, fun t ht hstate htag => ?_, fun hometag l hp hstate => ?_,
      fun z i hp hstate => ?_⟩
    · rw [h.exec_reply ht, (State.sortReply_eq _ _ _ _).1 (hdown hstate), State.countStale, satInc_sixteen]
      rfl
    · rw [h.exec_reply ht, (State.sortReply_eq _ _ _ _).2.1 w (hup hstate) ((htaken t).trans htag), State.countStale,
        satInc_sixteen]
      rfl
    · rw [h.exec_reply ht, (State.sortReply_eq _ _ _ _).2.2.1 (hup hstate) ((htaken t).trans htag), State.countUnknown,
        satInc_sixteen]
      rfl
    · have hask : ∃ drop, p = if drop = true then .recallDrop hometag l else .recallShare hometag l := by
        rcases hp with rfl | rfl
        · exact ⟨false, rfl⟩
        · exact ⟨true, rfl⟩
      obtain ⟨drop, hdrop⟩ := hask
      rw [h.exec_takeRecall hdrop, State.takeRecall_of_notUp (hdown hstate)]
    · subst hp
      show execHelloAck a s = _
      refine (whileRunning_high h.running).trans (congrArg _ ((h.takePacket _).trans ?_))
      exact congrArg (wrapUp s) (State.takeHelloAck_of_notTraining (by rwa [State.packetTaken_state]) z i)
  · show execStaleWindowEnd t s = _
    refine (whileRunning_high hrun).trans (congrArg _ ?_)
    simp only [htag]
    rfl
  · show execStaleWindowEnd t s = _
    refine (whileRunning_high hrun).trans (congrArg _ ?_)
    cases hx : s.tag t with
    | retired w => exact absurd hx (htag w)
    | free => simp only []
    | inUse o timer => simp only []

/-! ## Fitting (R28, R33) -/

theorem TrackerEntry.readsDirect_iff {e : TrackerEntry} {r : Request} {more : List Request} (hparked : e.parked = r :: more) :
    e.readsDirect = true ↔ e.kind = .directRead ∨ e.kind = .purgeDirect ∧ r.isWrite = false := by
  simp [TrackerEntry.readsDirect, hparked]

theorem TrackerEntry.writesDirect_iff {e : TrackerEntry} {r : Request} {more : List Request} (hparked : e.parked = r :: more) :
    e.writesDirect = true ↔ e.kind = .directWrite ∨ e.kind = .purgeDirect ∧ r.isWrite = true := by
  simp [TrackerEntry.writesDirect, hparked]

/-- The attempts that a DATA-O fits (R28, R36). -/
def TrackerEntry.TakesOwned (e : TrackerEntry) : Prop :=
  e.kind = .fetchS ∨ e.kind = .fetchO ∨ e.kind = .upgrade ∧ e.converted = true

/-- Which reply fits the outstanding attempt of an entry (R28, R33). -/
theorem TrackerEntry.fits_iff {e : TrackerEntry} {r : Request} {more : List Request} (hparked : e.parked = r :: more)
    (t : Fin 32) :
    (∀ l ws, e.fits (.dataS t l ws) = true ↔ e.kind = .fetchS ∧ l = e.line) ∧
    (∀ l ws, e.fits (.dataO t l ws) = true ↔ e.TakesOwned ∧ l = e.line) ∧
    (∀ l, e.fits (.grant t l) = true ↔ e.kind = .upgrade ∧ e.converted = false ∧ l = e.line) ∧
    (∀ z ws, e.fits (.wordData t z ws) = true ↔
      (e.kind = .directRead ∨ e.kind = .purgeDirect ∧ r.isWrite = false) ∧ z = r.size.code) ∧
    (e.fits (.done t) = true ↔ e.kind = .directWrite ∨ e.kind = .purgeDirect ∧ r.isWrite = true) := by
  refine ⟨fun l ws => ?_, fun l ws => ?_, fun l => ?_, fun z ws => ?_, ?_⟩
  · simp [TrackerEntry.fits]
  · simp [TrackerEntry.fits, TrackerEntry.TakesOwned, EntryKind.isFetch_iff, or_assoc]
  · simp [TrackerEntry.fits, and_assoc]
  · rw [← TrackerEntry.readsDirect_iff hparked]
    simp [TrackerEntry.fits, hparked, @eq_comm _ z r.size.code]
  · exact TrackerEntry.writesDirect_iff hparked

/-! ## Success (R12, R29, R61) -/

/-- The entry as a fitting reply leaves it. -/
def TrackerEntry.succeeded (e : TrackerEntry) (x : Answer) : TrackerEntry :=
  { e with phase := .ending, victim := none, answer := x }

/-- A fitting reply installs or answers, and the PARKED victim's slot turns QUEUED (R61, R70). -/
theorem State.succeed_eq {s : State} {n : Fin 12} {e : TrackerEntry} {p : HomePacket} (he : s.entry n = some e) :
    let b := (s.installReply e p).setEntry n (some (e.succeeded (e.answerOf p)))
    (e.victim = none → s.succeed n p = b) ∧
    ∀ k sl m, e.victim = some k → b.slot k = some sl → sl.state = .parked m →
      s.succeed n p = (b.setSlot k (some { sl with state := .queued })).queueSlot k := by
  intro b
  refine ⟨fun hvictim => ?_, fun k sl m hvictim hsl hstate => ?_⟩
  · simp only [State.succeed, he, hvictim]
    rfl
  · have hreleased : s.succeed n p = b.releaseVictim k := by
      simp only [State.succeed, he, hvictim]
      rfl
    rw [hreleased]
    simp only [State.releaseVictim, hsl, hstate]

/-- A reply to its entry: success where it fits, a mismatch where not (R29, R34). -/
theorem State.entryReply_eq {s : State} {n : Fin 12} {e : TrackerEntry} (he : s.entry n = some e) (t : Fin 32)
    (p : HomePacket) :
    (e.fits p = true → s.entryReply n t p = s.succeed n p) ∧
    (¬ e.fits p = true → s.entryReply n t p =
      (s.log (attemptFault .replyMismatch e.line t none e.attempts)).failAttempt n) := by
  refine ⟨fun hfits => ?_, fun hnot => ?_⟩
  · simp only [State.entryReply, he, hfits, if_true]
  · simp only [State.entryReply, he, hnot]
    rfl

/-- Settles O50, reply by reply. -/
theorem fittingRepliesEndTheWork : Obligations.FittingRepliesEndTheWork := by
  intro s a p rest t n e r more h he hparked b ends installed reads writes
  obtain ⟨hdataS, hdataO, hgrant, hwordData, hdone⟩ := TrackerEntry.fits_iff hparked t
  have hentry : b.entry n = some e := he
  have hfitting (hact : p.act t (.entry n) b = b.entryReply n t p) (hfits : e.fits p = true) :
      exec (p.command a) s = .next (wrapUp s (b.succeed n p)) := by
    rw [h.exec_owner, hact, (State.entryReply_eq hentry t p).1 hfits]
  have hends {b' : State} {x : Answer} (hact : p.act t (.entry n) b = b.entryReply n t p) (hfits : e.fits p = true)
      (hinstall : b.installReply e p = b') (hanswer : e.answerOf p = x) (hslots : b'.slots = s.slots) : ends b' x := by
    obtain ⟨hplain, hvictim⟩ := State.succeed_eq (p := p) hentry
    rw [hinstall, hanswer] at hplain hvictim
    refine ⟨fun hnone => ?_, fun k sl m hk hsl hstate => ?_⟩
    · rw [hfitting hact hfits, hplain hnone]
      rfl
    · have hsl' : (b'.setEntry n (some (e.succeeded x))).slot k = some sl :=
        (congrArg (·[k]) hslots).trans hsl
      rw [hfitting hact hfits, hvictim k sl m hk hsl' hstate]
      rfl
  refine ⟨fun w ws hw hp hkind => ?_, fun w ws hw hp hkind => ?_, fun w hw hp hkind hconverted => ?_, fun ws hp hreads => ?_,
    fun hp hwrites => ?_⟩ <;> subst hp
  · exact hends rfl ((hdataS _ _).2 ⟨hkind, rfl⟩) (by simp only [State.installReply, hw]; rfl) rfl rfl
  · exact hends rfl ((hdataO _ _).2 ⟨hkind, rfl⟩) (by simp only [State.installReply, hw]; rfl) rfl rfl
  · exact hends rfl ((hgrant _).2 ⟨hkind, hconverted, rfl⟩) (by simp only [State.installReply, hw]; rfl) rfl rfl
  · exact hends rfl ((hwordData _ _).2 ⟨hreads, rfl⟩) (by cases hw : e.way <;> simp only [State.installReply, hw])
      (by simp only [TrackerEntry.answerOf, hparked]) rfl
  · exact hends rfl (hdone.2 hwrites) (by cases hw : e.way <;> simp only [State.installReply, hw]) rfl rfl

/-! ## Failed attempts (R31 to R35, R60, R72, R157) -/

/-- A failed attempt of a slot: a SENDING slot is QUEUED and asks again, an ANSWERED one frees (R35, R72). -/
theorem State.failSlotAttempt_eq {s : State} {k : Fin 4} {sl : EvictionSlot} (hsl : s.slot k = some sl) {t : Fin 32} :
    (sl.state = .sending t → s.failSlotAttempt k = (s.setSlot k (some { sl with state := .queued })).queueSlot k) ∧
    (sl.state = .answered t → s.failSlotAttempt k = s.releaseSlot k) := by
  refine ⟨fun hstate => ?_, fun hstate => ?_⟩
  · simp only [State.failSlotAttempt, State.requeueSlot, hsl, hstate]
  · simp only [State.failSlotAttempt, hsl, hstate]

/-- What a reply does to its slot (R30, R32, R34, R35). -/
theorem State.slotReply_eq {s : State} {k : Fin 4} {sl : EvictionSlot} (hsl : s.slot k = some sl) (t : Fin 32) :
    s.slotReply k t (.done t) = s.releaseSlot k ∧
    (∀ p, (∀ u, p ≠ .done u) → s.slotReply k t p =
      (s.log (attemptFault .replyMismatch sl.line t none sl.attempts)).failSlotAttempt k) ∧
    ∀ reason, s.slotError k t reason =
      (s.log (attemptFault .homeError sl.line t (some reason) sl.attempts)).failSlotAttempt k := by
  refine ⟨?_, fun p hp => ?_, fun reason => ?_⟩
  · simp only [State.slotReply, hsl]
  · cases p with
    | done u => exact absurd rfl (hp u)
    | _ => simp only [State.slotReply, hsl]
  · simp only [State.slotError, hsl]

/-- What the freeing of a slot does to one entry (R53 to R55). -/
theorem TrackerEntry.onSlotFreed_eq (s : State) (l : LineAddr) (e : TrackerEntry) : e.onSlotFreed s l =
    if e.phase = .waiting .lineInSlot ∧ e.line = l ∧ s.lineInSlot e = false then { e with phase := .ending }
    else if e.phase = .waiting .noSlot then { e with wake := true } else e := by
  unfold TrackerEntry.onSlotFreed
  split
  case h_1 hphase =>
    by_cases hpassed : e.line = l ∧ s.lineInSlot e = false
    · simp only [hphase, hpassed, and_self, if_true]
    · simp only [hphase, hpassed, and_false, if_false, EntryPhase.waiting.injEq, reduceCtorEq]
  case h_2 hphase =>
    simp only [hphase, EntryPhase.waiting.injEq, reduceCtorEq, false_and, if_false, if_true]
  case h_3 hline hslot => rw [if_neg fun h => hline h.1, if_neg hslot]

/-- Slot `k`, which held `sl`, is FREE, and a way that its FLUSH held is held no more (R68). -/
def State.slotVacated (s : State) (k : Fin 4) (sl : EvictionSlot) : State :=
  if sl.kind = .flush ∧ (s.line sl.origin).holder = .slot k then
    (s.setSlot k none).setLine sl.origin { s.line sl.origin with holder := .none }
  else s.setSlot k none

theorem State.slotVacated_keeps (s : State) (k : Fin 4) (sl : EvictionSlot) :
    (s.slotVacated k sl).engine = s.engine ∧ (s.slotVacated k sl).entries = s.entries := by
  unfold State.slotVacated
  split <;> exact ⟨rfl, rfl⟩

/-- The freeing of a slot: its fields cleared, a way that a FLUSH held released, and everyone who waits told (R68). -/
theorem State.releaseSlot_eq {s : State} {k : Fin 4} {sl : EvictionSlot} (hsl : s.slot k = some sl) :
    s.releaseSlot k = { s.slotVacated k sl with
      entries := (s.slotVacated k sl).entries.map (Option.map (TrackerEntry.onSlotFreed (s.slotVacated k sl) sl.line))
      engine := s.engine.map fun p => { p with
        own := p.own.filter (· != k), wake := p.wake || p.phase == .waitSlot || p.walkWait == .slot } } := by
  have hvacated : (if sl.kind = .flush then (s.setSlot k none).releaseWay (.slot k) sl.origin else s.setSlot k none) =
      s.slotVacated k sl := by
    unfold State.slotVacated
    by_cases hflush : sl.kind = .flush
    · simp only [hflush, if_true, true_and]
      rfl
    · simp only [hflush, if_false, false_and]
  simp only [State.releaseSlot, hsl, hvacated]
  rw [← (s.slotVacated_keeps k sl).1]
  rfl

/-- Settles O51: the replies by the slot's failed attempt, the freeing by its equation. -/
theorem repliesToSlots : Obligations.RepliesToSlots := by
  constructor
  · intro s a p rest t k sl h hsl b logged fails
    have hslot : b.slot k = some sl := hsl
    obtain ⟨hdone, hmismatch, herror⟩ := State.slotReply_eq hslot t
    have hfails {b₁ : State} (hlogged : b₁.slot k = some sl)
        (hact : p.act t (.slot k) b = b₁.failSlotAttempt k) : fails b₁ := by
      refine ⟨fun hstate => ?_, fun hstate => ?_⟩
      · rw [h.exec_owner, hact, (State.failSlotAttempt_eq hlogged).1 hstate]
      · rw [h.exec_owner, hact, (State.failSlotAttempt_eq hlogged).2 hstate]
    have hlogs (f : FaultEntry) : (b.log f).slot k = some sl := (b.log_slot f k).trans hslot
    refine ⟨fun hp => ?_, fun hp => ?_, fun reason hp => ?_, fun hp => ?_⟩
    · subst hp
      rw [h.exec_owner]
      exact congrArg (fun x => Host.Outcome.next (wrapUp s x)) hdone
    · subst hp
      exact hfails hslot rfl
    · subst hp
      exact hfails (hlogs _) (herror reason)
    · refine hfails (hlogs _) ?_
      rcases hp with ⟨l, ws, rfl⟩ | ⟨l, ws, rfl⟩ | ⟨l, rfl⟩ | ⟨z, ws, rfl⟩
      · exact hmismatch (.dataS t l ws) (fun _ => HomePacket.noConfusion)
      · exact hmismatch (.dataO t l ws) (fun _ => HomePacket.noConfusion)
      · exact hmismatch (.grant t l) (fun _ => HomePacket.noConfusion)
      · exact hmismatch (.wordData t z ws) (fun _ => HomePacket.noConfusion)
  · intro s k sl hsl w b' b
    refine ⟨_, State.releaseSlot_eq hsl, fun n => ?_⟩
    have hmapped : (b.entries.map (Option.map (TrackerEntry.onSlotFreed b sl.line)))[n] =
        (s.entry n).map (TrackerEntry.onSlotFreed b sl.line) := by
      rw [State.entry, ← (s.slotVacated_keeps k sl).2]
      exact Vector.getElem_map _ n.isLt
    refine ⟨fun hnone => ?_, fun e he => ?_⟩
    · exact hmapped.trans (congrArg _ hnone)
    · refine hmapped.trans ?_
      rw [he, Option.map_some, TrackerEntry.onSlotFreed_eq]

/-- Settles O52: replies by whether they fit, an expiry by its owner. -/
theorem failedAttemptsRetryUpToTheLimit : Obligations.FailedAttemptsRetryUpToTheLimit := by
  refine ⟨fun s n e he => ?_, ?_, ?_⟩
  · simp only [State.failAttempt, he]
  · intro s a p rest t n e r more h he hparked b mismatch reads writes
    obtain ⟨hdataS, hdataO, hgrant, hwordData, hdone⟩ := TrackerEntry.fits_iff hparked t
    have hentry : b.entry n = some e := he
    have hmismatch (hact : p.act t (.entry n) b = b.entryReply n t p) (hnot : ¬ e.fits p = true) : mismatch := by
      show exec (p.command a) s = _
      rw [h.exec_owner, hact, (State.entryReply_eq hentry t p).2 hnot]
      rfl
    refine ⟨fun hp => ?_, fun reason hp => ?_, fun l ws hp hnot => ?_, fun l ws hp hnot => ?_, fun l hp hnot => ?_,
      fun z ws hp hnot => ?_, fun hp hnot => ?_⟩ <;> subst hp
    · exact h.exec_owner
    · exact h.exec_owner
    · exact hmismatch rfl fun hfits => by
        obtain ⟨hkind, hline⟩ := (hdataS _ _).1 hfits
        exact hnot.elim (absurd hkind) (absurd hline)
    · exact hmismatch rfl fun hfits => by
        obtain ⟨htakes, hline⟩ := (hdataO _ _).1 hfits
        exact hnot.elim (absurd htakes) (absurd hline)
    · exact hmismatch rfl fun hfits => by
        obtain ⟨hkind, hconverted, hline⟩ := (hgrant _).1 hfits
        rcases hnot with hnot | hnot | hnot
        · exact hnot hkind
        · rw [hconverted] at hnot
          cases hnot
        · exact hnot hline
    · exact hmismatch rfl fun hfits => by
        obtain ⟨hreads, hsize⟩ := (hwordData _ _).1 hfits
        exact hnot.elim (absurd hreads) (absurd hsize)
    · exact hmismatch rfl fun hfits => hnot (hdone.1 hfits)
  · intro s t owner timer hrun htag b
    have hexec : exec (.responseTimerExpiry t) s = .next (wrapUp s (State.actFailed owner b)) := by
      show execResponseTimerExpiry t s = _
      refine (whileRunning_high hrun).trans (congrArg _ ?_)
      simp only [htag, satInc_sixteen]
      rfl
    refine ⟨fun n howner => ?_, fun k sl howner hsl => ?_⟩ <;> subst howner
    · exact hexec
    · have hslot : b.slot k = some sl := hsl
      refine ⟨fun hstate => ?_, fun hstate => ?_⟩
      · rw [hexec]
        exact congrArg (fun x => Host.Outcome.next (wrapUp s x)) ((State.failSlotAttempt_eq hslot).1 hstate)
      · rw [hexec]
        exact congrArg (fun x => Host.Outcome.next (wrapUp s x)) ((State.failSlotAttempt_eq hslot).2 hstate)

end Sys2Proof.Machine
end

section
/-! PROOFS. What the home asks back and the rows of the link itself (chapters 2 and 7): the way or slot that answers, the DOWN
event, and what a link that comes UP sends. -/

namespace Sys2Proof.Machine

-- Proofs are elaborated one after another: the threads of proofs that wait for each other do not fit the memory of the check.
set_option Elab.async false

open Sys2Proof (Word LineAddr LineData Arrival Frame)

/-! ## The handler of RECALL-SHARE and RECALL-DROP (R37 to R43) -/

theorem SlotState.examined_iff (x : SlotState) : x.examined = true ↔ ∀ u, x ≠ .answered u := by
  cases x <;> simp [SlotState.examined]

/-- The FLUSH slot that still holds a way (R38, R40). -/
theorem State.flushHolding_iff (s : State) (w : WayRef) (k : Fin 4) (sl : EvictionSlot) :
    s.flushHolding w = some (k, sl) ↔ (s.line w).holder = .slot k ∧ s.slot k = some sl ∧ sl.kind = .flush ∧
      ∀ u, sl.state ≠ .answered u := by
  unfold State.flushHolding
  cases hholder : (s.line w).holder with
  | none => simp
  | entry n => simp
  | slot j =>
    cases hslot : s.slot j with
    | none =>
      simp only [hslot, reduceCtorEq, Holder.slot.injEq, false_iff]
      rintro ⟨rfl, hsl, _⟩
      rw [hslot] at hsl
      cases hsl
    | some x =>
      simp only [hslot, Holder.slot.injEq, ← SlotState.examined_iff, Option.ite_none_right_eq_some, Option.some.injEq, Prod.mk.injEq]
      constructor
      · rintro ⟨⟨hkind, hexamined⟩, rfl, rfl⟩
        exact ⟨rfl, hslot, hkind, hexamined⟩
      · rintro ⟨rfl, hsl, hkind, hexamined⟩
        cases hslot.symm.trans hsl
        exact ⟨⟨hkind, hexamined⟩, rfl, rfl⟩

/-- The slot that carries a line absent from the store (R38, R42). -/
def State.Carries (s : State) (l : LineAddr) (k : Fin 4) (sl : EvictionSlot) : Prop :=
  s.slot k = some sl ∧ sl.line = l ∧ sl.kind ≠ .flush ∧ ∀ u, sl.state ≠ .answered u

/-- The slot that a search of the slots meets at `k` for a line (R42). -/
def State.carriedAt (s : State) (l : LineAddr) (k : Fin 4) : Option (Fin 4 × EvictionSlot) :=
  match s.slot k with
  | some sl => if sl.line = l ∧ sl.state.examined ∧ sl.kind ≠ .flush then some (k, sl) else none
  | none => none

theorem State.carriedAt_iff (s : State) (l : LineAddr) (k j : Fin 4) (sl : EvictionSlot) :
    s.carriedAt l k = some (j, sl) ↔ j = k ∧ s.Carries l k sl := by
  unfold State.carriedAt State.Carries
  cases hslot : s.slot k with
  | none => simp
  | some x =>
    simp only [Option.ite_none_right_eq_some, Option.some.injEq, Prod.mk.injEq, ← SlotState.examined_iff]
    constructor
    · rintro ⟨⟨hline, hexamined, hkind⟩, rfl, rfl⟩
      exact ⟨rfl, rfl, hline, hkind, hexamined⟩
    · rintro ⟨rfl, rfl, hline, hkind, hexamined⟩
      exact ⟨⟨hline, hexamined, hkind⟩, rfl, rfl⟩

theorem State.slotCarrying_eq (s : State) (l : LineAddr) : s.slotCarrying l = (List.finRange 4).findSome? (s.carriedAt l) :=
  rfl

theorem State.slotCarrying_of_lowest {s : State} {l : LineAddr} {k : Fin 4} {sl : EvictionSlot} (h : s.Carries l k sl)
    (hlowest : ∀ j < k, ∀ x, ¬ s.Carries l j x) : s.slotCarrying l = some (k, sl) := by
  rw [State.slotCarrying_eq, findSome_finRange_iff]
  refine ⟨k, (s.carriedAt_iff l k k sl).2 ⟨rfl, h⟩, fun j hj => ?_⟩
  exact Option.eq_none_iff_forall_ne_some.2 fun ⟨i, x⟩ hx => hlowest j hj x ((s.carriedAt_iff l j i x).1 hx).2

theorem State.slotCarrying_of_none {s : State} {l : LineAddr} (h : ∀ k sl, ¬ s.Carries l k sl) : s.slotCarrying l = none := by
  rw [State.slotCarrying_eq, List.findSome?_eq_none_iff]
  exact fun k _ => Option.eq_none_iff_forall_ne_some.2 fun ⟨i, x⟩ hx => h k x ((s.carriedAt_iff l k i x).1 hx).2

theorem EvictionSlot.recallOutcome_eq (sl : EvictionSlot) :
    sl.recallOutcome = if sl.kind = .release then .clean else .data sl.mask sl.data := by
  unfold EvictionSlot.recallOutcome
  cases sl.kind <;> rfl

/-- What becomes of the slot that gave the words of a reply, by its state (R40, R42). -/
theorem State.answerSlot_eq (s : State) (k : Fin 4) (sl : EvictionSlot) :
    (sl.state = .queued → s.answerSlot k sl = s.releaseSlot k) ∧
    (∀ u, sl.state = .sending u → s.answerSlot k sl = s.setSlot k (some { sl with state := .answered u })) ∧
    (∀ n e, sl.state = .parked n → s.entry n = some e →
      s.answerSlot k sl = (s.setEntry n (some { e with victim := none })).releaseSlot k) := by
  refine ⟨fun hstate => ?_, fun u hstate => ?_, fun n e hstate he => ?_⟩
  · simp only [State.answerSlot, hstate]
  · simp only [State.answerSlot, hstate]
  · simp only [State.answerSlot, hstate, he]

/-- A RECALL-DROP of a SHARED line converts the UPGRADE entry that holds its way (R41). -/
theorem State.convert_eq (s : State) (r : LineRecord) (drop : Bool) :
    (∀ n e, drop = true → r.state = .shared → r.holder = .entry n → s.entry n = some e → e.kind = .upgrade →
      s.convert r drop = s.setEntry n (some { e with converted := true })) ∧
    ((∀ n e, ¬ (drop = true ∧ r.state = .shared ∧ r.holder = .entry n ∧ s.entry n = some e ∧ e.kind = .upgrade)) →
      s.convert r drop = s) := by
  refine ⟨fun n e hdrop hshared hholder he hkind => ?_, fun hnone => ?_⟩
  · simp only [State.convert, hholder, he, hdrop, hshared, hkind, and_self, if_true]
  · cases hholder : r.holder with
    | none => simp only [State.convert, hholder]
    | slot k => simp only [State.convert, hholder]
    | entry n =>
      cases he : s.entry n with
      | none => simp only [State.convert, hholder, he]
      | some e =>
        have hnot : ¬ (drop = true ∧ r.state = .shared ∧ e.kind = .upgrade) := fun ⟨hdrop, hshared, hkind⟩ =>
          hnone n e ⟨hdrop, hshared, hholder, he, hkind⟩
        simp only [State.convert, hholder, he, hnot, if_false]

theorem State.takeRecall_of_up {s t : State} {homeTag : BitVec 8} {l : LineAddr} {drop : Bool} {o : RecallOutcome}
    (hup : s.linkUp = true) (heffect : s.recallEffect l drop = (t, o)) :
    s.takeRecall homeTag l drop = wrapUp s (t.form (.recallReply homeTag l o)).endSlotNotSent := by
  simp only [State.takeRecall, hup, if_true, heffect]

/-- What a line found in way `w` is answered with, by the slot and the entry that hold the way (R39 to R41). -/
theorem State.recallEffect_of_some {s : State} {l : LineAddr} {drop : Bool} {w : WayRef} (hw : s.lookup l = some w) :
    (s.flushHolding w = none → s.recallEffect l drop =
      ((s.setLine w ((s.line w).recalled drop)).convert (s.line w) drop, recallOutcome (s.line w).marks (s.line w).data)) ∧
    ∀ k sl, s.flushHolding w = some (k, sl) → s.recallEffect l drop =
      (((s.setLine w ((s.line w).recalled drop)).convert (s.line w) drop).answerSlot k sl,
        recallOutcome ((s.line w).marks ||| sl.mask) (s.line w).data) := by
  refine ⟨fun hnone => ?_, fun k sl hsome => ?_⟩
  · simp only [State.recallEffect, hw, State.recallWay, hnone]
  · simp only [State.recallEffect, hw, State.recallWay, hsome]

theorem State.recallEffect_of_none {s : State} {l : LineAddr} {drop : Bool} (hnone : s.lookup l = none) :
    (s.slotCarrying l = none → s.recallEffect l drop = (s, .notHeld)) ∧
    ∀ k sl, s.slotCarrying l = some (k, sl) → s.recallEffect l drop = (s.answerSlot k sl, sl.recallOutcome) := by
  refine ⟨fun hslot => ?_, fun k sl hslot => ?_⟩
  · simp only [State.recallEffect, hnone, hslot]
  · simp only [State.recallEffect, hnone, hslot]

/-- Settles O54, by what the lookup and the search of the slots find. -/
theorem recallsAreAnsweredFromWhatIsFound : Obligations.RecallsAreAnsweredFromWhatIsFound := by
  intro s a p rest hometag l drop h hup hp b answer given
  have hlink : b.linkUp = true := (s.packetTaken_linkUp a rest).trans (s.linkUp_iff.2 hup)
  have hlookup : b.lookup l = s.lookup l := State.lookup_congr_store rfl l
  have hanswer {t : State} {o : RecallOutcome} (heffect : b.recallEffect l drop = (t, o)) : answer t o := by
    show exec (p.command a) s = _
    rw [h.exec_takeRecall hp, State.takeRecall_of_up hlink heffect]
    rfl
  constructor
  · intro w hw r recalled converts reply flushed
    obtain ⟨hplain, hslot⟩ := State.recallEffect_of_some (drop := drop) (hlookup.trans hw)
    obtain ⟨hconverts, hstays⟩ := State.convert_eq recalled r drop
    have hflush (k : Fin 4) (sl : EvictionSlot) : b.flushHolding w = some (k, sl) ↔ flushed k sl := b.flushHolding_iff w k sl
    refine ⟨fun hnoflush hnoconvert => ?_, fun n e hc => ?_, fun k sl hf => ?_⟩
    · have hnone : b.flushHolding w = none :=
        Option.eq_none_iff_forall_ne_some.2 fun ⟨k, sl⟩ hsl => hnoflush k sl ((hflush k sl).1 hsl)
      have heffect := hplain hnone
      exact hanswer (heffect.trans (congrArg (·, _) (hstays hnoconvert)))
    · obtain ⟨hdrop, hshared, hholder, he, hkind⟩ := hc
      have hnone : b.flushHolding w = none := Option.eq_none_iff_forall_ne_some.2 fun ⟨k, sl⟩ hsl => by
        have hheld := ((hflush k sl).1 hsl).1
        rw [hholder] at hheld
        cases hheld
      exact hanswer ((hplain hnone).trans (congrArg (·, _) (hconverts n e hdrop hshared hholder he hkind)))
    · have hunconverted : recalled.convert r drop = recalled := hstays fun n e hc => by
        have hheld := hc.2.2.1
        rw [hf.1] at hheld
        cases hheld
      have heffect := (hslot k sl ((hflush k sl).2 hf)).trans
        (congrArg (fun t : State => (t.answerSlot k sl, _)) hunconverted)
      obtain ⟨hqueued, hsending, _⟩ := recalled.answerSlot_eq k sl
      exact ⟨fun hstate => hanswer (heffect.trans (congrArg (·, _) (hqueued hstate))),
        fun u hstate => hanswer (heffect.trans (congrArg (·, _) (hsending u hstate)))⟩
  · intro hnone carries
    obtain ⟨hnowhere, hslot⟩ := State.recallEffect_of_none (drop := drop) (hlookup.trans hnone)
    refine ⟨fun hno => hanswer (hnowhere (State.slotCarrying_of_none hno)), fun k sl hc hlowest => ?_⟩
    intro o
    have houtcome : sl.recallOutcome = o := sl.recallOutcome_eq
    have heffect := hslot k sl (State.slotCarrying_of_lowest hc hlowest)
    rw [houtcome] at heffect
    obtain ⟨hqueued, hsending, hparked⟩ := b.answerSlot_eq k sl
    exact ⟨⟨fun hstate => hanswer (heffect.trans (congrArg (·, _) (hqueued hstate))),
      fun u hstate => hanswer (heffect.trans (congrArg (·, _) (hsending u hstate)))⟩,
      fun n e hstate he => hanswer (heffect.trans (congrArg (·, _) (hparked n e hstate he)))⟩

/-! ## A link that comes UP (R164) -/

/-- Whether an entry waits for a slot to be sent depends on the entry and the slots alone. -/
theorem State.sentOrFreed_congr {s t : State} {n : Fin 12} (hentry : t.entry n = s.entry n) (hslots : t.slots = s.slots) :
    t.sentOrFreed n = s.sentOrFreed n := by
  have hslot (k : Fin 4) : t.slot k = s.slot k := congrArg (·[k]) hslots
  unfold State.sentOrFreed State.anySlot
  simp only [hentry, hslot]

/-- One entry after the slots were asked: it reaches step 4 if the slot it waited for is sent. -/
def State.entryReached (s : State) (n : Fin 12) : Option TrackerEntry :=
  (s.entry n).map fun e => if s.sentOrFreed n = true then e.wait .noTag else e

theorem State.reachStep4_entryReached (s : State) (n : Fin 12) : (s.reachStep4 n).entry n = s.entryReached n := by
  unfold State.entryReached
  cases he : s.entry n with
  | none => simp only [State.reachStep4, he, Option.map_none]
  | some e => exact State.reachStep4_entry he

/-- Every entry of the list reaches step 4 or stays, by the state before the first of them. -/
theorem foldl_reachStep4 {l : List (Fin 12)} (hl : l.Nodup) (s : State) :
    l.foldl State.reachStep4 s = { s with entries := (l.foldl State.reachStep4 s).entries } ∧
    ∀ n, (n ∈ l → (l.foldl State.reachStep4 s).entry n = s.entryReached n) ∧
      (n ∉ l → (l.foldl State.reachStep4 s).entry n = s.entry n) := by
  induction l generalizing s with
  | nil => exact ⟨rfl, fun n => ⟨fun h => absurd h List.not_mem_nil, fun _ => rfl⟩⟩
  | cons a rest ih =>
    obtain ⟨hnew, hrest⟩ := List.nodup_cons.1 hl
    obtain ⟨hframe, hothers⟩ := s.reachStep4_frame a
    obtain ⟨hfold, hentries⟩ := ih hrest (s.reachStep4 a)
    have hslots : (s.reachStep4 a).slots = s.slots := (congrArg State.slots hframe).trans rfl
    refine ⟨?_, fun n => ⟨fun hn => ?_, fun hn => ?_⟩⟩
    · rw [List.foldl_cons]
      refine hfold.trans ?_
      generalize (rest.foldl State.reachStep4 (s.reachStep4 a)).entries = entries
      rw [hframe]
    · rw [List.foldl_cons]
      rcases List.mem_cons.1 hn with rfl | hn
      · rw [(hentries n).2 hnew, State.reachStep4_entryReached]
      · have hne : n ≠ a := fun h => hnew (h ▸ hn)
        rw [(hentries n).1 hn]
        unfold State.entryReached
        rw [State.sentOrFreed_congr (hothers n hne) hslots, hothers n hne]
    · rw [List.foldl_cons, (hentries n).2 fun h => hn (List.mem_cons_of_mem a h)]
      exact hothers n fun h => hn (h ▸ List.mem_cons_self)

theorem foldl_slots {f : State → Fin 4 → State} (s : State) :
    (List.finRange 4).foldl f s = f (f (f (f s 0) 1) 2) 3 := by
  have hall : List.finRange 4 = [0, 1, 2, 3] := by decide
  simp only [hall, List.foldl_cons, List.foldl_nil]

/-- A HELLO-ACK taken in TRAINING trains the link or faults it (R152, R164, R165). -/
theorem State.takeHelloAck_of_training {s : State} (h : s.dlink.state = .training) (size : BitVec 8) (identity : BitVec 16) :
    (size ≠ 64 → s.takeHelloAck size identity = State.raise { s with dlink := { s.dlink with
      state := .faulted, trainingTimer := none } } 5) ∧
    (size = 64 → s.takeHelloAck size identity = (List.finRange 12).foldl State.reachStep4
      (((((State.raise { s with dlink := { s.dlink with
        state := .up, homeId := identity, trainingTimer := none } } 4).askTag 0).askTag 1).askTag 2).askTag 3)) := by
  refine ⟨fun hsize => ?_, fun hsize => ?_⟩
  · have hother : ¬ size = Config.lineSize := hsize
    simp only [State.takeHelloAck, h, hother, if_false]
    rfl
  · have hsame : size = Config.lineSize := hsize
    simp only [State.takeHelloAck, h, hsame, if_true, State.linkComesUp, foldl_slots]
    rfl

/-- What the entries of a link that has come UP are, by what they waited for. -/
theorem State.entryReached_eq {s : State} {n : Fin 12} :
    (s.entry n = none → s.entryReached n = none) ∧
    ∀ e, s.entry n = some e →
      ((e.phase = .waiting .slotNotSent ∧ ∀ k sl, s.slot k = some sl → sl.line = e.line → sl.state ≠ .queued) →
        s.entryReached n = some { e with phase := .waiting .noTag, wake := false }) ∧
      (¬ (e.phase = .waiting .slotNotSent ∧ ∀ k sl, s.slot k = some sl → sl.line = e.line → sl.state ≠ .queued) →
        s.entryReached n = some e) := by
  refine ⟨fun hnone => ?_, fun e he => ⟨fun hpassed => ?_, fun hnot => ?_⟩⟩
  · rw [State.entryReached, hnone, Option.map_none]
  · have hdue : s.sentOrFreed n = true := (s.sentOrFreed_iff n).2 ⟨e, he, hpassed⟩
    rw [State.entryReached, he, Option.map_some, if_pos hdue]
    rfl
  · have hdue : ¬ s.sentOrFreed n = true := fun hdue => by
      obtain ⟨x, hx, hpassed⟩ := (s.sentOrFreed_iff n).1 hdue
      cases he.symm.trans hx
      exact hnot hpassed
    rw [State.entryReached, he, Option.map_some, if_neg hdue]

/-! ## The DOWN event (R76, R162, R163) -/

theorem failsOnDown_eq (x : Option TrackerEntry) :
    failsOnDown x = (x.map fun e => e.phase != .ending).getD false := by
  cases x <;> rfl

theorem State.downEvent_eq (s : State) :
    s.downEvent =
      let b : State := { s with dlink := { s.dlink with
        state := .down, tags := Vector.replicate 32 .free, rx := [], tx := [] } }
      let failing := (List.finRange 12).filter fun n => ((s.entry n).map fun e => e.phase != .ending).getD false
      let b := failing.foldl (fun b n => b.failFinal n .linkDown none) b
      ((((b.downSlot 0).downSlot 1).downSlot 2).downSlot 3).raise 3 := by
  simp only [State.downEvent, foldl_slots, failsOnDown_eq]
  rfl

/-- What the DOWN event does to one slot in use (R76). -/
theorem State.downSlot_eq {s : State} {k : Fin 4} {sl : EvictionSlot} (hsl : s.slot k = some sl) :
    let w := sl.origin
    let unsent : Prop := sl.state = .queued ∨ ∃ t, sl.state = .sending t
    ((∃ t, sl.state = .answered t) → s.downSlot k = s.releaseSlot k) ∧
    (unsent → sl.kind = .flush → s.downSlot k = (s.setLine w { s.line w with
      marks := (s.line w).marks ||| sl.mask, state := .modified }).releaseSlot k) ∧
    (unsent → sl.kind ≠ .flush → s.downSlot k = s.setSlot k (some { sl with state := .queued })) := by
  refine ⟨fun ⟨t, hstate⟩ => ?_, fun hunsent hkind => ?_, fun hunsent hkind => ?_⟩
  · simp only [State.downSlot, hsl, hstate]
  · rcases hunsent with hstate | ⟨t, hstate⟩ <;> simp only [State.downSlot, hsl, hstate, hkind]
  · have hother : sl.kind = .putback ∨ sl.kind = .release := by cases hk : sl.kind <;> simp_all
    rcases hunsent with hstate | ⟨t, hstate⟩ <;> rcases hother with hk | hk <;>
      simp only [State.downSlot, hsl, hstate, hk]

/-- Settles O55, row by row. -/
theorem linkRows : Obligations.LinkRows := by
  intro s hrun trained present lost
  refine ⟨?_, ?_, fun habsent => ?_, fun hpresent => ⟨fun hstate => ?_, fun hstate => ?_, fun hstate => ?_⟩, ?_,
    s.downEvent_eq, fun k => ⟨fun hfree => ?_, fun sl => State.downSlot_eq⟩⟩
  · show execSignalPresent s = _
    exact whileRunning_high hrun
  · show execTrainingTimerExpiry s = _
    exact whileRunning_high hrun
  · show execSignalLost s = _
    refine (whileRunning_high hrun).trans (congrArg _ ?_)
    simp only [habsent, Bool.false_eq_true, if_false]
  · show execSignalLost s = _
    refine (whileRunning_high hrun).trans (congrArg _ ?_)
    simp only [hpresent, if_true, hstate]
    rfl
  · show execSignalLost s = _
    refine (whileRunning_high hrun).trans (congrArg _ ?_)
    simp only [hpresent, if_true, hstate]
    rfl
  · show execSignalLost s = _
    refine (whileRunning_high hrun).trans (congrArg _ ?_)
    rcases hstate with hstate | hstate <;> simp only [hpresent, if_true, hstate] <;> rfl
  · intro a rest size id h hstate b
    have hexec : exec (.helloAck a) s = .next (wrapUp s (b.takeHelloAck size id)) := by
      show execHelloAck a s = _
      exact (whileRunning_high hrun).trans (congrArg _ (h.takePacket _))
    obtain ⟨hfaults, htrains⟩ := State.takeHelloAck_of_training ((s.packetTaken_state a rest).trans hstate) size id
    refine ⟨fun hsize => ?_, fun hsize => ?_⟩
    · rw [hexec, hfaults hsize]
    · intro sent
      obtain ⟨hfold, hentries⟩ := foldl_reachStep4 (List.nodup_finRange 12) sent
      refine ⟨((List.finRange 12).foldl State.reachStep4 sent).entries, ?_, fun n => ?_⟩
      · rw [hexec, htrains hsize]
        exact congrArg (fun x => Host.Outcome.next (wrapUp s x)) hfold
      · have hreached : ((List.finRange 12).foldl State.reachStep4 sent).entries[n] = sent.entryReached n :=
          (hentries n).1 (List.mem_finRange n)
        rw [hreached]
        exact State.entryReached_eq
  · simp only [State.downSlot, hfree]

end Sys2Proof.Machine
end
